-- ==== Sys2Proof/Word.lean ====
section
/-! DEFINITION. The bit vectors of the block (00_scope.md R10): every value is an unsigned bit vector of stated width. -/

namespace Sys2Proof

/-- A byte. -/
abbrev Byte := BitVec 8

/-- A 32-bit register value or write value. -/
abbrev Word := BitVec 32

/-- A byte offset from a window's base, as wide as the descriptor's field (R70). -/
abbrev Offset := BitVec 27

/-- A transaction descriptor (R70). -/
abbrev Descriptor := BitVec 64

end Sys2Proof
end

