-- ==== Sys2Proof/Syntax.lean ====
section
/-! DEFINITION. The syntax of the block's transactions: the transaction tuple of 00_scope.md R15 and one constructor of `Instr` for each row of the opcode table. -/

namespace Sys2Proof

/-- The four bus windows (R15, R50). -/
inductive Window where
  | reg | uart | code | param
  deriving DecidableEq, Repr

/-- The direction of a transaction (R15). -/
inductive Dir where
  | rd | wr
  deriving DecidableEq, Repr

/-- The access widths a window gives a meaning (R54). -/
inductive Width where
  | w1 | w2 | w4
  deriving DecidableEq, Repr

/-- The access sizes a descriptor can say (R15, R70): a width, or 8 bytes. -/
inductive Size where
  | upTo4 (sz : Width)
  | w8
  deriving DecidableEq, Repr

/-- The two storage regions (R17, R27). -/
inductive Region where
  | userCode | userParam
  deriving DecidableEq, Repr

/-- A bus transaction `T = (win, dir, sz, off, data)` (R15). -/
structure Txn where
  win  : Window
  dir  : Dir
  sz   : Size
  off  : Offset
  data : Word
  deriving DecidableEq, Repr

/-- The transaction classes, one constructor per row of the opcode table, in its order.
A constructor carries every field of the descriptor that its row leaves free; `data` of a read is the field R70 ignores. -/
inductive Instr where
  | anyW8 (win : Window) (dir : Dir) (off : Offset) (data : Word)
  | nvmStatusRd (sz : Width) (data : Word)
  | nvmStatusWr (sz : Width) (data : Word)
  | nvmOpBuferase (sz : Width)
  | nvmOpPageerase (sz : Width)
  | nvmOpProg4 (sz : Width)
  | nvmOpProg5 (sz : Width)
  | nvmOpProgC (sz : Width)
  | nvmOpProgE (sz : Width)
  | nvmOpUnimpl0 (sz : Width)
  | nvmOpUnimpl1 (sz : Width)
  | nvmOpUnimpl3 (sz : Width)
  | nvmOpUnimpl6 (sz : Width)
  | nvmOpUnimpl7 (sz : Width)
  | nvmOpUnimpl8 (sz : Width)
  | nvmOpUnimpl9 (sz : Width)
  | nvmOpUnimplB (sz : Width)
  | nvmOpUnimplD (sz : Width)
  | nvmOpUnimplF (sz : Width)
  | nvmOpBadmagic (sz : Width) (data : Word)
  | nvmKeyRegionWr (sz : Width) (data : Word)
  | nvmKeyParamWr (sz : Width) (data : Word)
  | nvmKeyGlobalWr (sz : Width) (data : Word)
  | nvmWoRd04 (sz : Width) (data : Word)
  | nvmWoRd20 (sz : Width) (data : Word)
  | nvmWoRd24 (sz : Width) (data : Word)
  | nvmWoRd28 (sz : Width) (data : Word)
  | nvmUnmappedRd (sz : Width) (off : Offset) (data : Word)
  | nvmUnmappedWr (sz : Width) (off : Offset) (data : Word)
  | uartStatusRd (sz : Width) (data : Word)
  | uartStatusWr (sz : Width) (data : Word)
  | uartRxdataRd (sz : Width) (data : Word)
  | uartTxdataWr (sz : Width) (data : Word)
  | uartRxdataWr (sz : Width) (data : Word)
  | uartTxdataRd (sz : Width) (data : Word)
  | uartUnmappedRd (sz : Width) (off : Offset) (data : Word)
  | uartUnmappedWr (sz : Width) (off : Offset) (data : Word)
  | stgCodeSt4 (off : Offset) (data : Word)
  | stgCodeStMisaligned (off : Offset) (data : Word)
  | stgCodeWrBadwidth (sz : Width) (off : Offset) (data : Word)
  | stgCodeRd (sz : Width) (off : Offset) (data : Word)
  | stgParamSt4 (off : Offset) (data : Word)
  | stgParamStMisaligned (off : Offset) (data : Word)
  | stgParamWrBadwidth (sz : Width) (off : Offset) (data : Word)
  | stgParamRd (sz : Width) (off : Offset) (data : Word)
  deriving DecidableEq, Repr

end Sys2Proof
end

