-- ==== Sys2Proof/Machine/Literals.lean ====
section
/-! DEFINITION. The block's guest-visible constants (00_scope.md R7, R8), each bound here and nowhere else. -/

namespace Sys2Proof.Machine

/-- `SENT_REGION` (R8). -/
def sentRegion : Word := 0xAA55AA55
/-- `SENT_PARAM` (R8). -/
def sentParam : Word := 0x55AA55AA
/-- `SENT_GLOBAL` (R8). -/
def sentGlobal : Word := 0xA5A55A5A
/-- `OP_MAGIC`, 28 bits, compared with `data[31:4]` (R8). -/
def opMagic : BitVec 28 := 0x57AF6C0
/-- The write value that triggers opcode `n`: the magic above the opcode (R73, R74). -/
def opWord (n : BitVec 4) : Word := opMagic ++ n

/-- `OFF_STATUS` (R8). -/
def offStatus : Offset := 0x00
/-- `OFF_OPCODE` (R8). -/
def offOpcode : Offset := 0x04
/-- `OFF_KEY_REGION` (R8). -/
def offKeyRegion : Offset := 0x20
/-- `OFF_KEY_PARAM` (R8). -/
def offKeyParam : Offset := 0x24
/-- `OFF_KEY_GLOBAL` (R8). -/
def offKeyGlobal : Offset := 0x28
/-- `UOFF_STATUS` (R8). -/
def uoffStatus : Offset := 0x00
/-- `UOFF_RXDATA` (R8). -/
def uoffRxdata : Offset := 0x14
/-- `UOFF_TXDATA` (R8). -/
def uoffTxdata : Offset := 0x18

/-- The region a staged id names (R8, R26): 1 is UserCode, 2 is UserParam, every other id is `NONE`. -/
def regionOfId (id : Nat) : Option Region :=
  if id = 1 then some .userCode else if id = 2 then some .userParam else none

/-- The erased byte, `ERASED` (R8); a storage byte nothing has written reads so (R27). -/
def erased : Byte := 0xFF

/-- `CODE_SIZE`'s default (R7). -/
def codeSizeDefault : Nat := 0x49000
/-- `PARAM_SIZE`'s default (R7). -/
def paramSizeDefault : Nat := 512
/-- The least byte size of the REG window (R7). -/
def regWinMin : Nat := 0x2C
/-- The least byte size of the UART window (R7). -/
def uartWinMin : Nat := 0x1C
/-- The byte size the model gives the REG and UART windows at reset: every offset the descriptor can say.
DESIGN CHOICE (log 3): R7 leaves both sizes open; unsafe, since a real window may end earlier. -/
def winSizeDefault : Nat := 2 ^ 27

/-- The offsets of the REG window that have a register behind them (R53, R59). -/
def regMapped (off : Offset) : Bool :=
  off == offStatus || off == offOpcode || off == offKeyRegion || off == offKeyParam || off == offKeyGlobal

/-- The offsets of the UART window that have a register behind them (R53, R59). -/
def uartMapped (off : Offset) : Bool :=
  off == uoffStatus || off == uoffRxdata || off == uoffTxdata

end Sys2Proof.Machine
end

