-- ==== Sys2Proof/Config.lean ====
section
/-! DEFINITION. The configuration parameters of 00_scope.md R7, and the free values of 93_implementation_defined.md section 2: opaque constants, of which nothing can be proved. -/

namespace Sys2Proof

/-- The configuration parameters (R7). They are no state of the block: State carries them so that every statement holds for every configuration, and no step changes them.
DESIGN CHOICE (log 3): a field of State rather than an argument of the step; safe. -/
structure Config where
  /-- `CODE_SIZE`. -/
  codeSize : Nat
  /-- `PARAM_SIZE`. -/
  paramSize : Nat
  /-- `REG_WIN_SIZE`, OPEN (D12). -/
  regWinSize : Nat
  /-- `UART_WIN_SIZE`, OPEN (D12). -/
  uartWinSize : Nat
  /-- `REG_BASE`, OPEN (D11). -/
  regBase : Nat
  /-- `UART_BASE`, OPEN (D11). -/
  uartBase : Nat
  /-- `CODE_WIN_BASE`, OPEN (D11). -/
  codeWinBase : Nat
  /-- `PARAM_WIN_BASE`, OPEN (D11). -/
  paramWinBase : Nat
  /-- `BUS_REJECT_RESPONSE`, OPEN (D9): a code nothing interprets, handed to the guest with a wrong-width staging write. -/
  busRejectResponse : Nat
  /-- `EINT_IRQ`, OPEN (D19): whether `eint_o` is connected to an interrupt line. -/
  eintIrq : Bool
  /-- `FETCH_COHERENT`, OPEN (D24): no rule of the block reads it; it is for a model of the whole system to bind (R65). -/
  fetchCoherent : Bool
  deriving DecidableEq, Repr

/-- `size(r)` (R12). -/
def Config.size (c : Config) : Region → Nat
  | .userCode => c.codeSize
  | .userParam => c.paramSize

/-- The byte size of a window (R50): a staging window is as large as its region. -/
def Config.winSize (c : Config) : Window → Nat
  | .reg => c.regWinSize
  | .uart => c.uartWinSize
  | .code => c.codeSize
  | .param => c.paramSize

/-- The bus base address of a window (R7). -/
def Config.winBase (c : Config) : Window → Nat
  | .reg => c.regBase
  | .uart => c.uartBase
  | .code => c.codeWinBase
  | .param => c.paramWinBase

/-- A region size the spec allows: a positive multiple of 512, at most 2^27 (R7, D10). -/
def Config.legalSize (n : Nat) : Bool := 0 < n && n % 512 == 0 && n ≤ 2 ^ 27

/-- The configurations the spec allows (R7). -/
def Config.wf (c : Config) : Bool :=
  Config.legalSize c.codeSize && Config.legalSize c.paramSize &&
    Machine.regWinMin ≤ c.regWinSize && Machine.uartWinMin ≤ c.uartWinSize

/-- Byte `i` of `pagebuf` left by draw `n` (R33): a free value. -/
opaque Config.drawPagebuf : Nat → Nat → Byte
/-- The staged region id left by draw `n` (R33): a free value. -/
opaque Config.drawRegionId : Nat → Nat
/-- `stg.addr` left by draw `n` (R33): a free value. -/
opaque Config.drawStgAddr : Nat → Word
/-- `uart.rx_byte` left by draw `n` (R33): a free value. -/
opaque Config.drawRxByte : Nat → Byte
/-- `uart.RXR` left by draw `n` (R33): a free value. -/
opaque Config.drawRxr : Nat → Bool
/-- `uart.TXS` left by draw `n` (R33): a free value. -/
opaque Config.drawTxs : Nat → Bool
/-- The 32 bits of which draw `n` answers a staging-window read (R145): a free value. -/
opaque Config.drawRead : Nat → Word
/-- The base address of a window (R7, D11): OPEN, a free value. -/
opaque Config.openBase : Window → Nat
/-- `BUS_REJECT_RESPONSE` (R7, D9): OPEN, a free value. -/
opaque Config.openBusReject : Nat
/-- `EINT_IRQ` (R7, D19): OPEN, a free value. -/
opaque Config.openEintIrq : Bool
/-- `FETCH_COHERENT` (R7, D24): OPEN, a free value. -/
opaque Config.openFetchCoherent : Bool

/-- The configuration of the machine that State.reset builds: the spec's default sizes, free values where it leaves a parameter open.
DESIGN CHOICE (log 3): the sizes of the REG and UART windows. -/
def Config.default : Config where
  codeSize := Machine.codeSizeDefault
  paramSize := Machine.paramSizeDefault
  regWinSize := Machine.winSizeDefault
  uartWinSize := Machine.winSizeDefault
  regBase := Config.openBase .reg
  uartBase := Config.openBase .uart
  codeWinBase := Config.openBase .code
  paramWinBase := Config.openBase .param
  busRejectResponse := Config.openBusReject
  eintIrq := Config.openEintIrq
  fetchCoherent := Config.openFetchCoherent

end Sys2Proof
end

