-- ==== Sys2Proof/WellFormed.lean ====
section
/-! DEFINITION. Well-formed instructions: the descriptor conditions of 30_encoding.md R71, and the conditions that keep an instruction in its own row of the ordered table (R72). -/

namespace Sys2Proof

open Machine

/-- A write value of `sz` bytes carries no more than them: `data < 2^(8*sz)` (R71). -/
def Width.fits (sz : Width) (data : Word) : Bool :=
  match sz with
  | .w1 => data.toNat < 2 ^ 8
  | .w2 => data.toNat < 2 ^ 16
  | .w4 => true

/-- The offset is inside its window (R51, R71). -/
def Config.inWindow (c : Config) (win : Window) (off : Offset) : Bool := off.toNat < c.winSize win

/-- R71 for a read. -/
def Config.readOk (c : Config) (win : Window) (off : Offset) (data : Word) : Bool :=
  c.inWindow win off && data == 0

/-- R71 for a write of at most 4 bytes. -/
def Config.writeOk (c : Config) (win : Window) (sz : Width) (off : Offset) (data : Word) : Bool :=
  c.inWindow win off && sz.fits data

/-- The offset is a multiple of 4: `off[1:0] = 00` (R146). -/
def Offset.aligned (off : Offset) : Bool := off.extractLsb' 0 2 == 0

/-- The instruction's operands belong to its own row and to no earlier one (R72). -/
def Instr.inRow : Instr → Bool
  | .nvmOpBadmagic _ data => data.extractLsb' 4 28 != opMagic
  | .nvmUnmappedRd _ off _ => !regMapped off
  | .nvmUnmappedWr _ off _ => !regMapped off
  | .uartUnmappedRd _ off _ => !uartMapped off
  | .uartUnmappedWr _ off _ => !uartMapped off
  | .stgCodeSt4 off _ => Offset.aligned off
  | .stgCodeStMisaligned off _ => !Offset.aligned off
  | .stgCodeWrBadwidth sz _ _ => sz != .w4
  | .stgParamSt4 off _ => Offset.aligned off
  | .stgParamStMisaligned off _ => !Offset.aligned off
  | .stgParamWrBadwidth sz _ _ => sz != .w4
  | .anyW8 .. | .nvmStatusRd .. | .nvmStatusWr .. => true
  | .nvmOpBuferase _ | .nvmOpPageerase _ | .nvmOpProg4 _ | .nvmOpProg5 _ | .nvmOpProgC _ | .nvmOpProgE _ => true
  | .nvmOpUnimpl0 _ | .nvmOpUnimpl1 _ | .nvmOpUnimpl3 _ | .nvmOpUnimpl6 _ | .nvmOpUnimpl7 _ => true
  | .nvmOpUnimpl8 _ | .nvmOpUnimpl9 _ | .nvmOpUnimplB _ | .nvmOpUnimplD _ | .nvmOpUnimplF _ => true
  | .nvmKeyRegionWr .. | .nvmKeyParamWr .. | .nvmKeyGlobalWr .. => true
  | .nvmWoRd04 .. | .nvmWoRd20 .. | .nvmWoRd24 .. | .nvmWoRd28 .. => true
  | .uartStatusRd .. | .uartStatusWr .. | .uartRxdataRd .. | .uartTxdataWr .. => true
  | .uartRxdataWr .. | .uartTxdataRd .. | .stgCodeRd .. | .stgParamRd .. => true

/-- The instruction's descriptor is well-formed under the configuration `c` (R71).
A trigger's 32-bit magic word fits a 4-byte write only; an 8-byte descriptor has no data bound (`data < 2^64`). -/
def Instr.descriptorOk (c : Config) : Instr → Bool
  | .anyW8 win .wr off _ => c.inWindow win off
  | .anyW8 win .rd off data => c.readOk win off data
  | .nvmStatusRd _ data => c.readOk .reg offStatus data
  | .nvmStatusWr sz data => c.writeOk .reg sz offStatus data
  | .nvmOpBuferase sz => c.writeOk .reg sz offOpcode (opWord 0x2)
  | .nvmOpPageerase sz => c.writeOk .reg sz offOpcode (opWord 0xA)
  | .nvmOpProg4 sz => c.writeOk .reg sz offOpcode (opWord 0x4)
  | .nvmOpProg5 sz => c.writeOk .reg sz offOpcode (opWord 0x5)
  | .nvmOpProgC sz => c.writeOk .reg sz offOpcode (opWord 0xC)
  | .nvmOpProgE sz => c.writeOk .reg sz offOpcode (opWord 0xE)
  | .nvmOpUnimpl0 sz => c.writeOk .reg sz offOpcode (opWord 0x0)
  | .nvmOpUnimpl1 sz => c.writeOk .reg sz offOpcode (opWord 0x1)
  | .nvmOpUnimpl3 sz => c.writeOk .reg sz offOpcode (opWord 0x3)
  | .nvmOpUnimpl6 sz => c.writeOk .reg sz offOpcode (opWord 0x6)
  | .nvmOpUnimpl7 sz => c.writeOk .reg sz offOpcode (opWord 0x7)
  | .nvmOpUnimpl8 sz => c.writeOk .reg sz offOpcode (opWord 0x8)
  | .nvmOpUnimpl9 sz => c.writeOk .reg sz offOpcode (opWord 0x9)
  | .nvmOpUnimplB sz => c.writeOk .reg sz offOpcode (opWord 0xB)
  | .nvmOpUnimplD sz => c.writeOk .reg sz offOpcode (opWord 0xD)
  | .nvmOpUnimplF sz => c.writeOk .reg sz offOpcode (opWord 0xF)
  | .nvmOpBadmagic sz data => c.writeOk .reg sz offOpcode data
  | .nvmKeyRegionWr sz data => c.writeOk .reg sz offKeyRegion data
  | .nvmKeyParamWr sz data => c.writeOk .reg sz offKeyParam data
  | .nvmKeyGlobalWr sz data => c.writeOk .reg sz offKeyGlobal data
  | .nvmWoRd04 _ data => c.readOk .reg offOpcode data
  | .nvmWoRd20 _ data => c.readOk .reg offKeyRegion data
  | .nvmWoRd24 _ data => c.readOk .reg offKeyParam data
  | .nvmWoRd28 _ data => c.readOk .reg offKeyGlobal data
  | .nvmUnmappedRd _ off data => c.readOk .reg off data
  | .nvmUnmappedWr sz off data => c.writeOk .reg sz off data
  | .uartStatusRd _ data => c.readOk .uart uoffStatus data
  | .uartStatusWr sz data => c.writeOk .uart sz uoffStatus data
  | .uartRxdataRd _ data => c.readOk .uart uoffRxdata data
  | .uartTxdataWr sz data => c.writeOk .uart sz uoffTxdata data
  | .uartRxdataWr sz data => c.writeOk .uart sz uoffRxdata data
  | .uartTxdataRd _ data => c.readOk .uart uoffTxdata data
  | .uartUnmappedRd _ off data => c.readOk .uart off data
  | .uartUnmappedWr sz off data => c.writeOk .uart sz off data
  | .stgCodeSt4 off data => c.writeOk .code .w4 off data
  | .stgCodeStMisaligned off data => c.writeOk .code .w4 off data
  | .stgCodeWrBadwidth sz off data => c.writeOk .code sz off data
  | .stgCodeRd _ off data => c.readOk .code off data
  | .stgParamSt4 off data => c.writeOk .param .w4 off data
  | .stgParamStMisaligned off data => c.writeOk .param .w4 off data
  | .stgParamWrBadwidth sz off data => c.writeOk .param sz off data
  | .stgParamRd _ off data => c.readOk .param off data

/-- A well-formed instruction: in its own row (R72), with a well-formed descriptor (R71). -/
def Instr.wellFormed (c : Config) (i : Instr) : Bool := i.inRow && i.descriptorOk c

end Sys2Proof
end

