-- ==== Sys2Proof/Decode.lean ====
section
/-! DEFINITION. The decoder and the encoder (30_encoding.md). A descriptor word is read as a transaction (R70), the transaction as the instruction of its row (R72); the decoder is total and refuses an ill-formed descriptor by name (R71). The opcode table's masks stand here too, as the spec lists them. -/

namespace Sys2Proof

open Machine

/-- `w[63:62]` (R70). -/
def Window.bits : Window → BitVec 2
  | .reg => 0b00
  | .uart => 0b01
  | .code => 0b10
  | .param => 0b11

/-- The window a `win` field names (R70). -/
def Window.ofBits (b : BitVec 2) : Window :=
  if b = 0b00 then .reg else if b = 0b01 then .uart else if b = 0b10 then .code else .param

/-- `w[61]` (R70): 0 read, 1 write. -/
def Dir.bits : Dir → BitVec 1
  | .rd => 0
  | .wr => 1

/-- The direction a `dir` field names (R70). -/
def Dir.ofBits (b : BitVec 1) : Dir := if b = 0 then .rd else .wr

/-- `w[60:59]` (R70): `sz = 2^szc`. -/
def Size.bits : Size → BitVec 2
  | .upTo4 .w1 => 0b00
  | .upTo4 .w2 => 0b01
  | .upTo4 .w4 => 0b10
  | .w8 => 0b11

/-- The size an `szc` field names (R70). -/
def Size.ofBits (b : BitVec 2) : Size :=
  if b = 0b00 then .upTo4 .w1 else if b = 0b01 then .upTo4 .w2 else if b = 0b10 then .upTo4 .w4 else .w8

/-- The transaction a descriptor word encodes (R70). -/
def Txn.ofDescriptor (w : Descriptor) : Txn where
  win := Window.ofBits (w.extractLsb' 62 2)
  dir := Dir.ofBits (w.extractLsb' 61 1)
  sz := Size.ofBits (w.extractLsb' 59 2)
  off := w.extractLsb' 32 27
  data := w.extractLsb' 0 32

/-- The descriptor word of a transaction (R70). -/
def Txn.toDescriptor (t : Txn) : Descriptor :=
  t.win.bits ++ t.dir.bits ++ t.sz.bits ++ t.off ++ t.data

/-- The rows of a write to NVM_OPCODE, each an exact data value, then any other data (R72, R74). -/
def decodeOpcode (sz : Width) (data : Word) : Instr :=
  if data = opWord 0x2 then .nvmOpBuferase sz
  else if data = opWord 0xA then .nvmOpPageerase sz
  else if data = opWord 0x4 then .nvmOpProg4 sz
  else if data = opWord 0x5 then .nvmOpProg5 sz
  else if data = opWord 0xC then .nvmOpProgC sz
  else if data = opWord 0xE then .nvmOpProgE sz
  else if data = opWord 0x0 then .nvmOpUnimpl0 sz
  else if data = opWord 0x1 then .nvmOpUnimpl1 sz
  else if data = opWord 0x3 then .nvmOpUnimpl3 sz
  else if data = opWord 0x6 then .nvmOpUnimpl6 sz
  else if data = opWord 0x7 then .nvmOpUnimpl7 sz
  else if data = opWord 0x8 then .nvmOpUnimpl8 sz
  else if data = opWord 0x9 then .nvmOpUnimpl9 sz
  else if data = opWord 0xB then .nvmOpUnimplB sz
  else if data = opWord 0xD then .nvmOpUnimplD sz
  else if data = opWord 0xF then .nvmOpUnimplF sz
  else .nvmOpBadmagic sz data

/-- The rows of the REG window (R72, group 2). -/
def decodeReg (dir : Dir) (sz : Width) (off : Offset) (data : Word) : Instr :=
  match dir with
  | .rd =>
    if off = offStatus then .nvmStatusRd sz data
    else if off = offOpcode then .nvmWoRd04 sz data
    else if off = offKeyRegion then .nvmWoRd20 sz data
    else if off = offKeyParam then .nvmWoRd24 sz data
    else if off = offKeyGlobal then .nvmWoRd28 sz data
    else .nvmUnmappedRd sz off data
  | .wr =>
    if off = offStatus then .nvmStatusWr sz data
    else if off = offOpcode then decodeOpcode sz data
    else if off = offKeyRegion then .nvmKeyRegionWr sz data
    else if off = offKeyParam then .nvmKeyParamWr sz data
    else if off = offKeyGlobal then .nvmKeyGlobalWr sz data
    else .nvmUnmappedWr sz off data

/-- The rows of the UART window (R72, group 3). -/
def decodeUart (dir : Dir) (sz : Width) (off : Offset) (data : Word) : Instr :=
  match dir with
  | .rd =>
    if off = uoffStatus then .uartStatusRd sz data
    else if off = uoffRxdata then .uartRxdataRd sz data
    else if off = uoffTxdata then .uartTxdataRd sz data
    else .uartUnmappedRd sz off data
  | .wr =>
    if off = uoffStatus then .uartStatusWr sz data
    else if off = uoffTxdata then .uartTxdataWr sz data
    else if off = uoffRxdata then .uartRxdataWr sz data
    else .uartUnmappedWr sz off data

/-- The rows of the CODE window (R72, group 4). -/
def decodeCode (dir : Dir) (sz : Width) (off : Offset) (data : Word) : Instr :=
  match dir, sz with
  | .wr, .w4 => if Offset.aligned off then .stgCodeSt4 off data else .stgCodeStMisaligned off data
  | .wr, sz => .stgCodeWrBadwidth sz off data
  | .rd, sz => .stgCodeRd sz off data

/-- The rows of the PARAM window (R72, group 5). -/
def decodeParam (dir : Dir) (sz : Width) (off : Offset) (data : Word) : Instr :=
  match dir, sz with
  | .wr, .w4 => if Offset.aligned off then .stgParamSt4 off data else .stgParamStMisaligned off data
  | .wr, sz => .stgParamWrBadwidth sz off data
  | .rd, sz => .stgParamRd sz off data

/-- The instruction of a transaction: its first row in the table's order (R72, R100). -/
def decodeTxn (t : Txn) : Instr :=
  match t.sz with
  | .w8 => .anyW8 t.win t.dir t.off t.data
  | .upTo4 sz =>
    match t.win with
    | .reg => decodeReg t.dir sz t.off t.data
    | .uart => decodeUart t.dir sz t.off t.data
    | .code => decodeCode t.dir sz t.off t.data
    | .param => decodeParam t.dir sz t.off t.data

/-- The instruction of the first row a descriptor word matches, well-formed or not: total (R72). -/
def decode (w : Descriptor) : Instr := decodeTxn (Txn.ofDescriptor w)

/-- Why the decoder refuses a word (R71): its descriptor is ill-formed.
Raised by `decodeChecked`; safe, the run stops where the spec says it does. -/
inductive DecodeError where
  | descriptor
  deriving DecidableEq, Repr

/-- Decoding under a configuration: an ill-formed descriptor is refused by name (R71), before anything else is looked at (R225). -/
def decodeChecked (c : Config) (w : Descriptor) : Except DecodeError Instr :=
  if (decode w).wellFormed c then .ok (decode w) else .error .descriptor

/-- The host's question: the instruction the decoder reads from the word `w`, its bits numbered as the opcode table numbers them.
A descriptor is one 64-bit word, so `nbits` is at most 64 and the bits above it are 0. -/
def decodeTableWord (nbits w : Nat) : Option Instr :=
  if nbits ≤ 64 ∧ w < 2 ^ nbits then some (decode (BitVec.ofNat 64 w)) else none

/-- A write or read of at most 4 bytes, as a transaction. -/
def Txn.narrow (win : Window) (dir : Dir) (sz : Width) (off : Offset) (data : Word) : Txn :=
  ⟨win, dir, .upTo4 sz, off, data⟩

/-- The transaction an instruction is (R15, and its row of the table). -/
def Instr.txn : Instr → Txn
  | .anyW8 win dir off data => ⟨win, dir, .w8, off, data⟩
  | .nvmStatusRd sz data => .narrow .reg .rd sz offStatus data
  | .nvmStatusWr sz data => .narrow .reg .wr sz offStatus data
  | .nvmOpBuferase sz => .narrow .reg .wr sz offOpcode (opWord 0x2)
  | .nvmOpPageerase sz => .narrow .reg .wr sz offOpcode (opWord 0xA)
  | .nvmOpProg4 sz => .narrow .reg .wr sz offOpcode (opWord 0x4)
  | .nvmOpProg5 sz => .narrow .reg .wr sz offOpcode (opWord 0x5)
  | .nvmOpProgC sz => .narrow .reg .wr sz offOpcode (opWord 0xC)
  | .nvmOpProgE sz => .narrow .reg .wr sz offOpcode (opWord 0xE)
  | .nvmOpUnimpl0 sz => .narrow .reg .wr sz offOpcode (opWord 0x0)
  | .nvmOpUnimpl1 sz => .narrow .reg .wr sz offOpcode (opWord 0x1)
  | .nvmOpUnimpl3 sz => .narrow .reg .wr sz offOpcode (opWord 0x3)
  | .nvmOpUnimpl6 sz => .narrow .reg .wr sz offOpcode (opWord 0x6)
  | .nvmOpUnimpl7 sz => .narrow .reg .wr sz offOpcode (opWord 0x7)
  | .nvmOpUnimpl8 sz => .narrow .reg .wr sz offOpcode (opWord 0x8)
  | .nvmOpUnimpl9 sz => .narrow .reg .wr sz offOpcode (opWord 0x9)
  | .nvmOpUnimplB sz => .narrow .reg .wr sz offOpcode (opWord 0xB)
  | .nvmOpUnimplD sz => .narrow .reg .wr sz offOpcode (opWord 0xD)
  | .nvmOpUnimplF sz => .narrow .reg .wr sz offOpcode (opWord 0xF)
  | .nvmOpBadmagic sz data => .narrow .reg .wr sz offOpcode data
  | .nvmKeyRegionWr sz data => .narrow .reg .wr sz offKeyRegion data
  | .nvmKeyParamWr sz data => .narrow .reg .wr sz offKeyParam data
  | .nvmKeyGlobalWr sz data => .narrow .reg .wr sz offKeyGlobal data
  | .nvmWoRd04 sz data => .narrow .reg .rd sz offOpcode data
  | .nvmWoRd20 sz data => .narrow .reg .rd sz offKeyRegion data
  | .nvmWoRd24 sz data => .narrow .reg .rd sz offKeyParam data
  | .nvmWoRd28 sz data => .narrow .reg .rd sz offKeyGlobal data
  | .nvmUnmappedRd sz off data => .narrow .reg .rd sz off data
  | .nvmUnmappedWr sz off data => .narrow .reg .wr sz off data
  | .uartStatusRd sz data => .narrow .uart .rd sz uoffStatus data
  | .uartStatusWr sz data => .narrow .uart .wr sz uoffStatus data
  | .uartRxdataRd sz data => .narrow .uart .rd sz uoffRxdata data
  | .uartTxdataWr sz data => .narrow .uart .wr sz uoffTxdata data
  | .uartRxdataWr sz data => .narrow .uart .wr sz uoffRxdata data
  | .uartTxdataRd sz data => .narrow .uart .rd sz uoffTxdata data
  | .uartUnmappedRd sz off data => .narrow .uart .rd sz off data
  | .uartUnmappedWr sz off data => .narrow .uart .wr sz off data
  | .stgCodeSt4 off data => .narrow .code .wr .w4 off data
  | .stgCodeStMisaligned off data => .narrow .code .wr .w4 off data
  | .stgCodeWrBadwidth sz off data => .narrow .code .wr sz off data
  | .stgCodeRd sz off data => .narrow .code .rd sz off data
  | .stgParamSt4 off data => .narrow .param .wr .w4 off data
  | .stgParamStMisaligned off data => .narrow .param .wr .w4 off data
  | .stgParamWrBadwidth sz off data => .narrow .param .wr sz off data
  | .stgParamRd sz off data => .narrow .param .rd sz off data

/-- The encoder: the descriptor word of an instruction (R70). -/
def encode (i : Instr) : Descriptor := i.txn.toDescriptor

/-- The mnemonic of an instruction's row in the opcode table. -/
def Instr.mnemonic : Instr → String
  | .anyW8 .. => "ANY_W8"
  | .nvmStatusRd .. => "NVM_STATUS_RD"
  | .nvmStatusWr .. => "NVM_STATUS_WR"
  | .nvmOpBuferase .. => "NVM_OP_BUFERASE"
  | .nvmOpPageerase .. => "NVM_OP_PAGEERASE"
  | .nvmOpProg4 .. => "NVM_OP_PROG_4"
  | .nvmOpProg5 .. => "NVM_OP_PROG_5"
  | .nvmOpProgC .. => "NVM_OP_PROG_C"
  | .nvmOpProgE .. => "NVM_OP_PROG_E"
  | .nvmOpUnimpl0 .. => "NVM_OP_UNIMPL_0"
  | .nvmOpUnimpl1 .. => "NVM_OP_UNIMPL_1"
  | .nvmOpUnimpl3 .. => "NVM_OP_UNIMPL_3"
  | .nvmOpUnimpl6 .. => "NVM_OP_UNIMPL_6"
  | .nvmOpUnimpl7 .. => "NVM_OP_UNIMPL_7"
  | .nvmOpUnimpl8 .. => "NVM_OP_UNIMPL_8"
  | .nvmOpUnimpl9 .. => "NVM_OP_UNIMPL_9"
  | .nvmOpUnimplB .. => "NVM_OP_UNIMPL_B"
  | .nvmOpUnimplD .. => "NVM_OP_UNIMPL_D"
  | .nvmOpUnimplF .. => "NVM_OP_UNIMPL_F"
  | .nvmOpBadmagic .. => "NVM_OP_BADMAGIC"
  | .nvmKeyRegionWr .. => "NVM_KEY_REGION_WR"
  | .nvmKeyParamWr .. => "NVM_KEY_PARAM_WR"
  | .nvmKeyGlobalWr .. => "NVM_KEY_GLOBAL_WR"
  | .nvmWoRd04 .. => "NVM_WO_RD_04"
  | .nvmWoRd20 .. => "NVM_WO_RD_20"
  | .nvmWoRd24 .. => "NVM_WO_RD_24"
  | .nvmWoRd28 .. => "NVM_WO_RD_28"
  | .nvmUnmappedRd .. => "NVM_UNMAPPED_RD"
  | .nvmUnmappedWr .. => "NVM_UNMAPPED_WR"
  | .uartStatusRd .. => "UART_STATUS_RD"
  | .uartStatusWr .. => "UART_STATUS_WR"
  | .uartRxdataRd .. => "UART_RXDATA_RD"
  | .uartTxdataWr .. => "UART_TXDATA_WR"
  | .uartRxdataWr .. => "UART_RXDATA_WR"
  | .uartTxdataRd .. => "UART_TXDATA_RD"
  | .uartUnmappedRd .. => "UART_UNMAPPED_RD"
  | .uartUnmappedWr .. => "UART_UNMAPPED_WR"
  | .stgCodeSt4 .. => "STG_CODE_ST4"
  | .stgCodeStMisaligned .. => "STG_CODE_ST_MISALIGNED"
  | .stgCodeWrBadwidth .. => "STG_CODE_WR_BADWIDTH"
  | .stgCodeRd .. => "STG_CODE_RD"
  | .stgParamSt4 .. => "STG_PARAM_ST4"
  | .stgParamStMisaligned .. => "STG_PARAM_ST_MISALIGNED"
  | .stgParamWrBadwidth .. => "STG_PARAM_WR_BADWIDTH"
  | .stgParamRd .. => "STG_PARAM_RD"

/-- A row of the opcode table: it matches a word `w` when `(w & mask) == pattern` (R72). -/
structure OpcodeRow where
  mnemonic : String
  mask : Descriptor
  pattern : Descriptor

/-- The match condition of a row (R72). -/
def OpcodeRow.matchesWord (r : OpcodeRow) (w : Descriptor) : Bool := w &&& r.mask == r.pattern

/-- The opcode table: the 8-byte access and NVM_STATUS. -/
def opcodeRows1 : List OpcodeRow := [
  ⟨"ANY_W8", 0x1800000000000000, 0x1800000000000000⟩,
  ⟨"NVM_STATUS_RD", 0xE7FFFFFF00000000, 0x0000000000000000⟩,
  ⟨"NVM_STATUS_WR", 0xE7FFFFFF00000000, 0x2000000000000000⟩]

/-- The opcode table: the opcode triggers with an effect. -/
def opcodeRows2 : List OpcodeRow := [
  ⟨"NVM_OP_BUFERASE", 0xE7FFFFFFFFFFFFFF, 0x2000000457AF6C02⟩,
  ⟨"NVM_OP_PAGEERASE", 0xE7FFFFFFFFFFFFFF, 0x2000000457AF6C0A⟩,
  ⟨"NVM_OP_PROG_4", 0xE7FFFFFFFFFFFFFF, 0x2000000457AF6C04⟩,
  ⟨"NVM_OP_PROG_5", 0xE7FFFFFFFFFFFFFF, 0x2000000457AF6C05⟩,
  ⟨"NVM_OP_PROG_C", 0xE7FFFFFFFFFFFFFF, 0x2000000457AF6C0C⟩,
  ⟨"NVM_OP_PROG_E", 0xE7FFFFFFFFFFFFFF, 0x2000000457AF6C0E⟩]

/-- The opcode table: the unimplemented opcodes and the bad magic. -/
def opcodeRows3 : List OpcodeRow := [
  ⟨"NVM_OP_UNIMPL_0", 0xE7FFFFFFFFFFFFFF, 0x2000000457AF6C00⟩,
  ⟨"NVM_OP_UNIMPL_1", 0xE7FFFFFFFFFFFFFF, 0x2000000457AF6C01⟩,
  ⟨"NVM_OP_UNIMPL_3", 0xE7FFFFFFFFFFFFFF, 0x2000000457AF6C03⟩,
  ⟨"NVM_OP_UNIMPL_6", 0xE7FFFFFFFFFFFFFF, 0x2000000457AF6C06⟩,
  ⟨"NVM_OP_UNIMPL_7", 0xE7FFFFFFFFFFFFFF, 0x2000000457AF6C07⟩,
  ⟨"NVM_OP_UNIMPL_8", 0xE7FFFFFFFFFFFFFF, 0x2000000457AF6C08⟩,
  ⟨"NVM_OP_UNIMPL_9", 0xE7FFFFFFFFFFFFFF, 0x2000000457AF6C09⟩,
  ⟨"NVM_OP_UNIMPL_B", 0xE7FFFFFFFFFFFFFF, 0x2000000457AF6C0B⟩,
  ⟨"NVM_OP_UNIMPL_D", 0xE7FFFFFFFFFFFFFF, 0x2000000457AF6C0D⟩,
  ⟨"NVM_OP_UNIMPL_F", 0xE7FFFFFFFFFFFFFF, 0x2000000457AF6C0F⟩,
  ⟨"NVM_OP_BADMAGIC", 0xE7FFFFFF00000000, 0x2000000400000000⟩]

/-- The opcode table: the key writes. -/
def opcodeRows4 : List OpcodeRow := [
  ⟨"NVM_KEY_REGION_WR", 0xE7FFFFFF00000000, 0x2000002000000000⟩,
  ⟨"NVM_KEY_PARAM_WR", 0xE7FFFFFF00000000, 0x2000002400000000⟩,
  ⟨"NVM_KEY_GLOBAL_WR", 0xE7FFFFFF00000000, 0x2000002800000000⟩]

/-- The opcode table: the reads of write-only offsets and the unmapped REG accesses. -/
def opcodeRows5 : List OpcodeRow := [
  ⟨"NVM_WO_RD_04", 0xE7FFFFFF00000000, 0x0000000400000000⟩,
  ⟨"NVM_WO_RD_20", 0xE7FFFFFF00000000, 0x0000002000000000⟩,
  ⟨"NVM_WO_RD_24", 0xE7FFFFFF00000000, 0x0000002400000000⟩,
  ⟨"NVM_WO_RD_28", 0xE7FFFFFF00000000, 0x0000002800000000⟩,
  ⟨"NVM_UNMAPPED_RD", 0xE000000000000000, 0x0000000000000000⟩,
  ⟨"NVM_UNMAPPED_WR", 0xE000000000000000, 0x2000000000000000⟩]

/-- The opcode table: the UART window. -/
def opcodeRows6 : List OpcodeRow := [
  ⟨"UART_STATUS_RD", 0xE7FFFFFF00000000, 0x4000000000000000⟩,
  ⟨"UART_STATUS_WR", 0xE7FFFFFF00000000, 0x6000000000000000⟩,
  ⟨"UART_RXDATA_RD", 0xE7FFFFFF00000000, 0x4000001400000000⟩,
  ⟨"UART_TXDATA_WR", 0xE7FFFFFF00000000, 0x6000001800000000⟩,
  ⟨"UART_RXDATA_WR", 0xE7FFFFFF00000000, 0x6000001400000000⟩,
  ⟨"UART_TXDATA_RD", 0xE7FFFFFF00000000, 0x4000001800000000⟩,
  ⟨"UART_UNMAPPED_RD", 0xE000000000000000, 0x4000000000000000⟩,
  ⟨"UART_UNMAPPED_WR", 0xE000000000000000, 0x6000000000000000⟩]

/-- The opcode table: the CODE window. -/
def opcodeRows7 : List OpcodeRow := [
  ⟨"STG_CODE_ST4", 0xF800000300000000, 0xB000000000000000⟩,
  ⟨"STG_CODE_ST_MISALIGNED", 0xF800000000000000, 0xB000000000000000⟩,
  ⟨"STG_CODE_WR_BADWIDTH", 0xE000000000000000, 0xA000000000000000⟩,
  ⟨"STG_CODE_RD", 0xE000000000000000, 0x8000000000000000⟩]

/-- The opcode table: the PARAM window. -/
def opcodeRows8 : List OpcodeRow := [
  ⟨"STG_PARAM_ST4", 0xF800000300000000, 0xF000000000000000⟩,
  ⟨"STG_PARAM_ST_MISALIGNED", 0xF800000000000000, 0xF000000000000000⟩,
  ⟨"STG_PARAM_WR_BADWIDTH", 0xE000000000000000, 0xE000000000000000⟩,
  ⟨"STG_PARAM_RD", 0xE000000000000000, 0xC000000000000000⟩]

/-- The rows of the opcode table, in its order (R72). -/
def opcodeRows : List OpcodeRow :=
  opcodeRows1 ++ opcodeRows2 ++ opcodeRows3 ++ opcodeRows4 ++ opcodeRows5 ++ opcodeRows6 ++ opcodeRows7 ++ opcodeRows8

end Sys2Proof
end

