-- ==== Sys2Proof/Machine/State.lean ====
section
/-! DEFINITION. The state of the machine (10_state.md): the block's registers and storage, the agents around it as plain data, and the model-only state of R32; the reasons an access reports; the state at reset. -/

namespace Sys2Proof.Machine

/-- One region's backing storage, sparse: addresses strictly rising, no entry holding `erased`, which is what an unlisted address reads as (R27, R250). -/
abbrev Memory := List Host.Cell

/-- The reasons of a `reject` (R221); the code is R221's. -/
inductive Reason where
  | badMagic | opLocked | opBadRegion | opOutOfRange | opUnimplemented
  | unmappedRead | unmappedWrite | stageOutOfBounds
  deriving DecidableEq, Repr

/-- The reasons of a `refuse` (R221). -/
inductive RefuseReason where
  | width8 | misalignedStage | descriptor
  deriving DecidableEq, Repr

/-- A diagnostic event `(reason, win, off, sz, data)` (R220); `data` is 0 for a read. -/
structure Event where
  reason : Reason
  win    : Window
  off    : Offset
  sz     : Width
  data   : Word
  deriving DecidableEq, Repr

/-- What the bus answers the guest's latest transaction: the outcomes of R13. -/
inductive Response where
  /-- No transaction has been issued yet. -/
  | none
  /-- `done` of a write. -/
  | done
  /-- `done(value)` of a read of `sz` bytes. -/
  | value (sz : Width) (v : Word)
  /-- `reject(reason)` of a write. -/
  | reject (reason : Reason)
  /-- `reject-with-value(v)` of a read of `sz` bytes (R104). -/
  | rejectValue (reason : Reason) (sz : Width) (v : Word)
  /-- `drop` of a locked staging store (R140). -/
  | drop
  /-- `drop` of a wrong-width staging store, with the bus's own answer `BUS_REJECT_RESPONSE` (R144). -/
  | dropBus (answer : Nat)
  /-- `refuse(reason)`: the run stops (R21). -/
  | refuse (reason : RefuseReason)
  /-- `hold`: the transmit waits for the TX channel (R197). -/
  | hold
  deriving DecidableEq, Repr

/-- A move of one of the agents (R9). The order of moves is an input, so plain data.
DESIGN CHOICE (log 2): how the model holds it; safe. -/
inductive Move where
  /-- The guest's next transaction. -/
  | guest
  /-- The RX channel delivers a byte (R198). -/
  | rxDeliver (b : Byte)
  /-- The TX channel becomes ready to accept, or stops being ready (R197). -/
  | txReady (ready : Bool)
  /-- The host invokes `reset()` (R252). -/
  | reset
  deriving DecidableEq, Repr

/-- Why the machine stops with a fault. -/
inductive Fault where
  /-- A MemWrite outside its region (R12, R175), raised by a page erase or a page program.
  Safe: no state whose configuration is legal raises it. -/
  | memWriteOutOfRegion
  deriving DecidableEq, Repr

/-- Why the machine refuses a step. -/
inductive Refusal where
  /-- An instruction without a meaning; raised by no arm of exec. Safe. -/
  | notModelled (mnemonic : String)
  /-- The run has stopped: the refusal mark is set (R13, R21); raised by `step`. Safe: the spec gives no step after it. -/
  | runStopped
  deriving DecidableEq, Repr

/-- The machine's state. -/
structure State where
  /-- The configuration parameters (R7); no step changes them. -/
  cfg : Config
  /-- `key.region` (R23). -/
  keyRegion : Bool
  /-- `key.param` (R23). -/
  keyParam : Bool
  /-- `key.global` (R23). -/
  keyGlobal : Bool
  /-- The event flag (R24). -/
  eint : Bool
  /-- The page buffer (R25). -/
  pagebuf : Vector Byte 512
  /-- `stg.region`; `none` is the spec's `NONE` (R26). -/
  stgRegion : Option Region
  /-- `stg.addr` (R26). -/
  stgAddr : Word
  /-- `storage(USERCODE)` (R27). -/
  storageCode : Memory
  /-- `storage(USERPARAM)` (R27). -/
  storageParam : Memory
  /-- `uart.rx_byte` (R28). -/
  rxByte : Byte
  /-- `uart.RXR` (R28). -/
  rxr : Bool
  /-- `uart.TXS` (R28). -/
  txs : Bool
  /-- Whether the TX channel accepts a byte now (R197). -/
  txReady : Bool
  /-- The bytes the TX channel has accepted, oldest first (R196). -/
  txOut : List Byte
  /-- The agents' next moves, first one first; the guest moves when no move of the list is enabled (R9, R61). -/
  schedule : List Move
  /-- The guest's transactions (R21). -/
  program : List Descriptor
  /-- The transaction index (R21, R32). -/
  index : Nat
  /-- The sticky refusal mark (R13, R32). -/
  refusalMark : Bool
  /-- The diagnostic log, oldest event first (R32, R220). -/
  log : List Event
  /-- The outcome of the guest's latest transaction (R13). -/
  response : Response
  /-- The model's own: the number of the next draw of free values. -/
  draws : Nat
  deriving DecidableEq, Repr

/-- What one step answers. -/
abbrev Result := Host.Outcome State Fault Refusal

/-- The page buffer that draw `n` leaves (R33): free values. -/
def drawnPagebuf (n : Nat) : Vector Byte 512 :=
  ⟨⟨(List.range 512).map (Config.drawPagebuf n)⟩, by simp⟩

/-- The block right after creation with the configuration `c` (R33, R250): locked, no event, storage erased, and draw 0 wherever the spec leaves the value unspecified.
DESIGN CHOICE (log 4): the unspecified values are free values; safe.
DESIGN CHOICE (log 5): the TX channel is ready; unsafe. -/
def State.created (c : Config) : State where
  cfg := c
  keyRegion := false
  keyParam := false
  keyGlobal := false
  eint := false
  pagebuf := drawnPagebuf 0
  stgRegion := regionOfId (Config.drawRegionId 0)
  stgAddr := Config.drawStgAddr 0
  storageCode := []
  storageParam := []
  rxByte := Config.drawRxByte 0
  rxr := Config.drawRxr 0
  txs := Config.drawTxs 0
  txReady := true
  txOut := []
  schedule := []
  program := []
  index := 0
  refusalMark := false
  log := []
  response := .none
  draws := 1

/-- The machine right after reset: a block just created with the default configuration; the guest has issued no transaction (R250, R253). -/
def State.reset : State := State.created Config.default

end Sys2Proof.Machine
end

