-- ==== Sys2Proof/Machine/Ops.lean ====
section
/-! DEFINITION. The named operations over storage, the diagnostic log and the outcomes of a transaction. The block raises nothing into the guest (R222, R223), so there is no exception to take and none to return from: `State.rejected` is the one shared way an invalid access reports itself (R220). -/

namespace Sys2Proof.Machine

/-! Storage (R12, R55, R175) -/

/-- The byte at an address: an unlisted one reads as erased. -/
def Memory.get : Memory → Nat → Byte
  | [], _ => erased
  | (k, b) :: m, a => if k = a then b else Memory.get m a

/-- The bytes `bs` at the addresses from `a` up, as canonical entries. -/
def Memory.block : Nat → List Byte → Memory
  | _, [] => []
  | a, b :: bs => if b = erased then Memory.block (a + 1) bs else (a, b) :: Memory.block (a + 1) bs

/-- Write the bytes `bs` at the addresses from `a` up. -/
def Memory.put (m : Memory) (a : Nat) (bs : List Byte) : Memory :=
  m.filter (fun e => e.1 < a) ++ Memory.block a bs ++ m.filter (fun e => a + bs.length ≤ e.1)

/-- Every entry stands at an address of at least `lo`, the addresses rise strictly, and none holds the erased byte. -/
def Memory.wfFrom : Nat → Memory → Bool
  | _, [] => true
  | lo, (k, b) :: m => lo ≤ k && b != erased && Memory.wfFrom (k + 1) m

/-- The canonical form. -/
def Memory.wf (m : Memory) : Bool := Memory.wfFrom 0 m

/-- Every entry stands below `n`. -/
def Memory.within (m : Memory) (n : Nat) : Bool := m.all (fun e => e.1 < n)

/-- `storage(r)` (R27). -/
def State.storage (s : State) : Region → Memory
  | .userCode => s.storageCode
  | .userParam => s.storageParam

/-- The state with `storage(r)` replaced. -/
def State.setStorage (s : State) (r : Region) (m : Memory) : State :=
  match r with
  | .userCode => { s with storageCode := m }
  | .userParam => { s with storageParam := m }

/-- The storage read port `StoreRead(r, i)`, defined for `i < size(r)` (R55). -/
def State.storeRead (s : State) (r : Region) (i : Nat) : Option Byte :=
  if i < s.cfg.size r then some ((s.storage r).get i) else none

/-- `MemRead(r, a, n)`, which requires `a + n <= size(r)` (R12). -/
def State.memRead (s : State) (r : Region) (a n : Nat) : Option (List Byte) :=
  if a + n ≤ s.cfg.size r then some ((List.range n).map (fun k => (s.storage r).get (a + k))) else none

/-- `MemWrite(r, a, n, v)` with the `n` bytes of `v` as a list, which requires `a + n <= size(r)` (R12). -/
def State.memWrite (s : State) (r : Region) (a : Nat) (bs : List Byte) : Option State :=
  if a + bs.length ≤ s.cfg.size r then some (s.setStorage r ((s.storage r).put a bs)) else none

/-! Outcomes (R13) -/

/-- The transaction ends with the answer `r`, and the index advances by one (R21). -/
def State.respond (s : State) (r : Response) : State := { s with response := r, index := s.index + 1 }

/-- Append an event to the diagnostic log (R220). -/
def State.emit (s : State) (e : Event) : State := { s with log := s.log ++ [e] }

/-- `reject(reason)` of a write: the event is logged, nothing else changes (R13, R220). -/
def State.rejected (s : State) (reason : Reason) (win : Window) (off : Offset) (sz : Width) (data : Word) : State :=
  (s.emit ⟨reason, win, off, sz, data⟩).respond (.reject reason)

/-- `reject-with-value(0)` of a read without a register behind it: UNMAPPED_READ is logged, the value is 0 (R104). -/
def State.rejectedRead (s : State) (win : Window) (off : Offset) (sz : Width) : State :=
  (s.emit ⟨.unmappedRead, win, off, sz, 0⟩).respond (.rejectValue .unmappedRead sz 0)

/-- `refuse(reason)`: the sticky mark is set, and the index does not advance (R13, R21). -/
def State.refuse (s : State) (reason : RefuseReason) : State :=
  { s with refusalMark := true, response := .refuse reason }

/-- `hold`: no state changes, and the guest does not advance (R197); the model notes that the transaction is waiting. -/
def State.held (s : State) : State := { s with response := .hold }

/-- R221's code of a reason. -/
def Reason.code : Reason → Nat
  | .badMagic => 1
  | .opLocked => 2
  | .opBadRegion => 3
  | .opOutOfRange => 4
  | .opUnimplemented => 5
  | .unmappedRead => 6
  | .unmappedWrite => 7
  | .stageOutOfBounds => 8

end Sys2Proof.Machine
end

