-- ==== Sys2Proof/Machine/Operands.lean ====
section
/-! DEFINITION. The operand forms: the fields of a write value and of a staging offset (30_encoding.md R73), the truncation of a read value (R53), and the byte order (R52). -/

namespace Sys2Proof.Machine

/-- The number of bytes of an access. -/
def widthBytes : Width → Nat
  | .w1 => 1
  | .w2 => 2
  | .w4 => 4

/-- The number of bytes of a transaction's size: `sz = 2^szc` (R70). -/
def sizeBytes : Size → Nat
  | .upTo4 sz => widthBytes sz
  | .w8 => 8

/-- A register's 32-bit read value truncated to its low `8*sz` bits (R53). -/
def truncRead (sz : Width) (v : Word) : Word :=
  match sz with
  | .w1 => (v.extractLsb' 0 8).setWidth 32
  | .w2 => (v.extractLsb' 0 16).setWidth 32
  | .w4 => v

/-- `done(value32[8*sz-1 : 0])`: the read completes (R13, R53). -/
def State.readDone (s : State) (sz : Width) (value : Word) : State := s.respond (.value sz (truncRead sz value))

/-- NVM_STATUS `ack`, `data[1]` (R73). -/
def ackBit (data : Word) : Bool := data.getLsbD 1

/-- UART_STATUS `cancel`, `data[2]` (R73, D16). -/
def cancelBit (data : Word) : Bool := data.getLsbD 2

/-- NVM_OPCODE `magic`, `data[31:4]` (R73). -/
def opcodeMagic (data : Word) : BitVec 28 := data.extractLsb' 4 28

/-- NVM_OPCODE `opcode`, `data[3:0]` (R73). -/
def opcodeField (data : Word) : BitVec 4 := data.extractLsb' 0 4

/-- UART_TXDATA `byte`, `data[7:0]` (R73, D17). -/
def txByte (data : Word) : Byte := data.extractLsb' 0 8

/-- The page offset `po = off & 511` (R73). -/
def pageOffset (off : Offset) : Nat := (off.extractLsb' 0 9).toNat

/-- The address a staging store records: the whole window offset (R73, R141). -/
def stagedAddr (off : Offset) : Word := off.setWidth 32

/-- `addr_high = stg.addr & ~511` at 32 bits (R16, R164). -/
def pageBase (addr : Word) : Word := addr &&& 0xFFFFFE00

/-- The `sz` bytes of a value, most significant first: the byte at the lowest address first (R52). -/
def bytesOf (sz : Width) (v : Word) : List Byte :=
  match sz with
  | .w1 => [v.extractLsb' 0 8]
  | .w2 => [v.extractLsb' 8 8, v.extractLsb' 0 8]
  | .w4 => [v.extractLsb' 24 8, v.extractLsb' 16 8, v.extractLsb' 8 8, v.extractLsb' 0 8]

/-- The value the bus composes from the bytes written, the one at the lowest address first, zero-extended to 32 bits (R52). -/
def composeBytes (bs : List Byte) : Word := bs.foldl (fun v b => (v <<< 8) ||| b.setWidth 32) 0

/-- The bytes a response returns to the guest, from the lowest address up (R52); none when it returns no value. -/
def responseBytes : Response → List Byte
  | .value sz v => bytesOf sz v
  | .rejectValue _ sz v => bytesOf sz v
  | _ => []

/-- The transaction of a bus write of 1, 2 or 4 bytes at an offset (R15, R52); other byte counts are no narrow write. -/
def writeTxn (win : Window) (off : Offset) (bs : List Byte) : Option Txn :=
  match bs.length with
  | 1 => some (.mk win .wr (.upTo4 .w1) off (composeBytes bs))
  | 2 => some (.mk win .wr (.upTo4 .w2) off (composeBytes bs))
  | 4 => some (.mk win .wr (.upTo4 .w4) off (composeBytes bs))
  | _ => none

/-- The bus address of an offset of a window (R50): base addresses are parameters. -/
def busAddress (c : Config) (win : Window) (off : Offset) : Nat := c.winBase win + off.toNat

/-- The four bytes of a staged word, big-endian, in the page buffer from index `po` (R52, R141). -/
def stageWord (pb : Vector Byte 512) (po : Nat) (data : Word) : Vector Byte 512 :=
  (((pb.setIfInBounds po (data.extractLsb' 24 8)).setIfInBounds (po + 1) (data.extractLsb' 16 8)).setIfInBounds
    (po + 2) (data.extractLsb' 8 8)).setIfInBounds (po + 3) (data.extractLsb' 0 8)

end Sys2Proof.Machine
end

