-- ==== Sys2Proof/Machine/Flags.lean ====
section
/-! DEFINITION. The key bits and the three flags (10_state.md R23, R30): what sets them, what clears them, and how the status registers show them. -/

namespace Sys2Proof.Machine

/-- `unlocked = key.region & key.param & key.global` (R123). -/
def State.unlocked (s : State) : Bool := s.keyRegion && s.keyParam && s.keyGlobal

/-- `UNLOCK[2:0] = key.global ++ key.param ++ key.region` (R23). -/
def State.unlockMask (s : State) : BitVec 3 :=
  BitVec.ofBool s.keyGlobal ++ BitVec.ofBool s.keyParam ++ BitVec.ofBool s.keyRegion

/-- The value of NVM_STATUS: bit 1 is `eint`, all other bits 0 (R29, R101). -/
def State.nvmStatus (s : State) : Word := (BitVec.ofBool s.eint).setWidth 32 <<< 1

/-- The value of UART_STATUS: bit 2 is `TXS`, bit 1 is `RXR`, all other bits 0 (R29, R191). -/
def State.uartStatus (s : State) : Word := (BitVec.ofBool s.txs ++ BitVec.ofBool s.rxr ++ (0 : BitVec 1)).setWidth 32

/-- The acknowledge: `data[1] == 0` clears `eint`, nothing sets it (R102). -/
def State.ackEint (s : State) (data : Word) : State := { s with eint := if ackBit data then s.eint else false }

/-- The transmit cancel: `data[2] == 0` clears `TXS`, nothing sets it (R192). -/
def State.cancelTxs (s : State) (data : Word) : State := { s with txs := if cancelBit data then s.txs else false }

/-- The level output `eint_o` (R226). -/
def State.eintOut (s : State) : Bool := s.eint

/-- The interrupt line, when `EINT_IRQ` says `eint_o` is connected to one (R226, D19). -/
def State.irqLine (s : State) : Option Bool := if s.cfg.eintIrq then some s.eintOut else none

end Sys2Proof.Machine
end

