-- ==== Sys2Proof/Machine/Dispatcher.lean ====
section
/-! DEFINITION. Meanings of the 8-byte access and of the REG window's status register, write-only offsets and unmapped offsets (20_memory.md R54, 40_dispatcher.md). -/

namespace Sys2Proof.Machine

/-- ANY_W8: `refuse(WIDTH8)` in any window (R54). -/
def execAnyW8 (s : State) : Result := .next (s.refuse .width8)

/-- NVM_STATUS_RD (R101). -/
def execNvmStatusRd (sz : Width) (s : State) : Result := .next (s.readDone sz s.nvmStatus)

/-- NVM_STATUS_WR: the acknowledge (R102). -/
def execNvmStatusWr (data : Word) (s : State) : Result := .next ((s.ackEint data).respond .done)

/-- NVM_WO_RD_04: a read of NVM_OPCODE (R105). -/
def execNvmWoRd04 (sz : Width) (s : State) : Result := .next (s.rejectedRead .reg offOpcode sz)

/-- NVM_WO_RD_20: a read of NVM_KEY_REGION (R105). -/
def execNvmWoRd20 (sz : Width) (s : State) : Result := .next (s.rejectedRead .reg offKeyRegion sz)

/-- NVM_WO_RD_24: a read of NVM_KEY_PARAM (R105). -/
def execNvmWoRd24 (sz : Width) (s : State) : Result := .next (s.rejectedRead .reg offKeyParam sz)

/-- NVM_WO_RD_28: a read of NVM_KEY_GLOBAL (R105). -/
def execNvmWoRd28 (sz : Width) (s : State) : Result := .next (s.rejectedRead .reg offKeyGlobal sz)

/-- NVM_UNMAPPED_RD (R104). -/
def execNvmUnmappedRd (sz : Width) (off : Offset) (s : State) : Result := .next (s.rejectedRead .reg off sz)

/-- NVM_UNMAPPED_WR (R104). -/
def execNvmUnmappedWr (sz : Width) (off : Offset) (data : Word) (s : State) : Result :=
  .next (s.rejected .unmappedWrite .reg off sz data)

end Sys2Proof.Machine
end

