-- ==== Sys2Proof/Machine/Executor.lean ====
section
/-! DEFINITION. Meanings of the opcode triggers (43_operation_executor.md). -/

namespace Sys2Proof.Machine

/-- The three preconditions in their order, and the page they select: unlocked (R162), a recognized region (R163), a page inside it (R164). -/
def opTarget (s : State) : Except Reason (Region × Nat) :=
  if !s.unlocked then .error .opLocked
  else
    match s.stgRegion with
    | none => .error .opBadRegion
    | some r =>
      if s.cfg.size r ≤ (pageBase s.stgAddr).toNat then .error .opOutOfRange
      else .ok (r, (pageBase s.stgAddr).toNat)

/-- A successful operation: `eint` is set and the write completes (R160). -/
def State.opDone (s : State) : State := { s with eint := true }.respond .done

/-- `BufferErase()` (R166). -/
def bufferErase (s : State) : Result := .next { s with pagebuf := Vector.replicate 512 erased }.opDone

/-- The 512 bytes `bs` become the page at `a` of region `r`, in one MemWrite (R58, R168, R170). -/
def writePage (r : Region) (a : Nat) (bs : List Byte) (s : State) : Result :=
  match s.memWrite r a bs with
  | some t => .next t.opDone
  | none => .fault .memWriteOutOfRegion

/-- The 512 bytes of an erased page (R168). -/
def erasedPage : List Byte := List.replicate 512 erased

/-- `PageErase(r, addr_high)` (R168). -/
def pageErase (r : Region) (a : Nat) (s : State) : Result := writePage r a erasedPage s

/-- `PageProgram(r, addr_high)`: the page buffer is copied, not combined with the old bytes (R169, R170). -/
def pageProgram (r : Region) (a : Nat) (s : State) : Result := writePage r a s.pagebuf.toList s

/-- `OpTrigger(data)` (R160): the magic, the preconditions, the dispatch on the opcode (R165). -/
def opTrigger (sz : Width) (data : Word) (s : State) : Result :=
  if opcodeMagic data ≠ opMagic then .next (s.rejected .badMagic .reg offOpcode sz data)
  else
    match opTarget s with
    | .error reason => .next (s.rejected reason .reg offOpcode sz data)
    | .ok (r, a) =>
      if opcodeField data = 0x2 then bufferErase s
      else if opcodeField data = 0xA then pageErase r a s
      else if opcodeField data = 0x4 ∨ opcodeField data = 0x5 ∨ opcodeField data = 0xC ∨ opcodeField data = 0xE then
        pageProgram r a s
      else .next (s.rejected .opUnimplemented .reg offOpcode sz data)

/-- NVM_OP_BUFERASE: opcode 2 (R166). -/
def execNvmOpBuferase (sz : Width) (s : State) : Result := opTrigger sz (opWord 0x2) s
/-- NVM_OP_PAGEERASE: opcode 10 (R168). -/
def execNvmOpPageerase (sz : Width) (s : State) : Result := opTrigger sz (opWord 0xA) s
/-- NVM_OP_PROG_4: opcode 4 (R170). -/
def execNvmOpProg4 (sz : Width) (s : State) : Result := opTrigger sz (opWord 0x4) s
/-- NVM_OP_PROG_5: opcode 5 (R171). -/
def execNvmOpProg5 (sz : Width) (s : State) : Result := opTrigger sz (opWord 0x5) s
/-- NVM_OP_PROG_C: opcode 12 (R172). -/
def execNvmOpProgC (sz : Width) (s : State) : Result := opTrigger sz (opWord 0xC) s
/-- NVM_OP_PROG_E: opcode 14 (R173). -/
def execNvmOpProgE (sz : Width) (s : State) : Result := opTrigger sz (opWord 0xE) s
/-- NVM_OP_UNIMPL_0 (R174). -/
def execNvmOpUnimpl0 (sz : Width) (s : State) : Result := opTrigger sz (opWord 0x0) s
/-- NVM_OP_UNIMPL_1 (R174). -/
def execNvmOpUnimpl1 (sz : Width) (s : State) : Result := opTrigger sz (opWord 0x1) s
/-- NVM_OP_UNIMPL_3 (R174). -/
def execNvmOpUnimpl3 (sz : Width) (s : State) : Result := opTrigger sz (opWord 0x3) s
/-- NVM_OP_UNIMPL_6 (R174). -/
def execNvmOpUnimpl6 (sz : Width) (s : State) : Result := opTrigger sz (opWord 0x6) s
/-- NVM_OP_UNIMPL_7 (R174). -/
def execNvmOpUnimpl7 (sz : Width) (s : State) : Result := opTrigger sz (opWord 0x7) s
/-- NVM_OP_UNIMPL_8 (R174). -/
def execNvmOpUnimpl8 (sz : Width) (s : State) : Result := opTrigger sz (opWord 0x8) s
/-- NVM_OP_UNIMPL_9 (R174). -/
def execNvmOpUnimpl9 (sz : Width) (s : State) : Result := opTrigger sz (opWord 0x9) s
/-- NVM_OP_UNIMPL_B (R174). -/
def execNvmOpUnimplB (sz : Width) (s : State) : Result := opTrigger sz (opWord 0xB) s
/-- NVM_OP_UNIMPL_D (R174). -/
def execNvmOpUnimplD (sz : Width) (s : State) : Result := opTrigger sz (opWord 0xD) s
/-- NVM_OP_UNIMPL_F (R174). -/
def execNvmOpUnimplF (sz : Width) (s : State) : Result := opTrigger sz (opWord 0xF) s
/-- NVM_OP_BADMAGIC: any other data, which has another magic (R161). -/
def execNvmOpBadmagic (sz : Width) (data : Word) (s : State) : Result := opTrigger sz data s

end Sys2Proof.Machine
end

