-- ==== Sys2Proof/Machine/Keys.lean ====
section
/-! DEFINITION. Meanings of the key writes (41_key_unlock.md): each key is set by its own sentinel and cleared by any other value. A miss is no event (R120, D35). -/

namespace Sys2Proof.Machine

/-- NVM_KEY_REGION_WR (R120). -/
def execNvmKeyRegionWr (data : Word) (s : State) : Result :=
  .next ({ s with keyRegion := data == sentRegion }.respond .done)

/-- NVM_KEY_PARAM_WR (R121). -/
def execNvmKeyParamWr (data : Word) (s : State) : Result :=
  .next ({ s with keyParam := data == sentParam }.respond .done)

/-- NVM_KEY_GLOBAL_WR (R122). -/
def execNvmKeyGlobalWr (data : Word) (s : State) : Result :=
  .next ({ s with keyGlobal := data == sentGlobal }.respond .done)

end Sys2Proof.Machine
end

