-- ==== Sys2Proof/Machine/Staging.lean ====
section
/-! DEFINITION. Meanings of the staging windows' accesses (42_page_buffer.md). -/

namespace Sys2Proof.Machine

/-- The effect of an accepted store: the pointer and the four bytes of the page buffer (R141). -/
def State.stage (s : State) (r : Region) (off : Offset) (data : Word) : State :=
  { s with
    stgRegion := some r
    stgAddr := stagedAddr off
    pagebuf := stageWord s.pagebuf (pageOffset off) data }

/-- An aligned 4-byte store to the staging window of region `r`: the unlock gate, then the bounds check, then the effect (R140, R142, R141, in R225's order). -/
def stageStore (win : Window) (r : Region) (off : Offset) (data : Word) (s : State) : State :=
  if !s.unlocked then s.respond .drop
  else if s.cfg.size r < off.toNat + 4 then s.rejected .stageOutOfBounds win off .w4 data
  else (s.stage r off data).respond .done

/-- A read of a staging window: a fresh draw, truncated to the access (R145); no state of the block changes. -/
def stagingRead (sz : Width) (s : State) : State :=
  { s with draws := s.draws + 1 }.readDone sz (Config.drawRead s.draws)

/-- STG_CODE_ST4 (R146). -/
def execStgCodeSt4 (off : Offset) (data : Word) (s : State) : Result := .next (stageStore .code .userCode off data s)

/-- STG_CODE_ST_MISALIGNED: `refuse(MISALIGNED_STAGE)` (R143). -/
def execStgCodeStMisaligned (s : State) : Result := .next (s.refuse .misalignedStage)

/-- STG_CODE_WR_BADWIDTH: dropped; the bus answers `BUS_REJECT_RESPONSE` (R144). -/
def execStgCodeWrBadwidth (s : State) : Result := .next (s.respond (.dropBus s.cfg.busRejectResponse))

/-- STG_CODE_RD (R145). -/
def execStgCodeRd (sz : Width) (s : State) : Result := .next (stagingRead sz s)

/-- STG_PARAM_ST4 (R147). -/
def execStgParamSt4 (off : Offset) (data : Word) (s : State) : Result :=
  .next (stageStore .param .userParam off data s)

/-- STG_PARAM_ST_MISALIGNED: `refuse(MISALIGNED_STAGE)` (R143). -/
def execStgParamStMisaligned (s : State) : Result := .next (s.refuse .misalignedStage)

/-- STG_PARAM_WR_BADWIDTH: dropped; the bus answers `BUS_REJECT_RESPONSE` (R144). -/
def execStgParamWrBadwidth (s : State) : Result := .next (s.respond (.dropBus s.cfg.busRejectResponse))

/-- STG_PARAM_RD (R145). -/
def execStgParamRd (sz : Width) (s : State) : Result := .next (stagingRead sz s)

end Sys2Proof.Machine
end

