-- ==== Sys2Proof/Machine/Uart.lean ====
section
/-! DEFINITION. Meanings of the UART window's accesses (44_uart.md). -/

namespace Sys2Proof.Machine

/-- UART_STATUS_RD (R191). -/
def execUartStatusRd (sz : Width) (s : State) : Result := .next (s.readDone sz s.uartStatus)

/-- UART_STATUS_WR: the transmit cancel (R192). -/
def execUartStatusWr (data : Word) (s : State) : Result := .next ((s.cancelTxs data).respond .done)

/-- UART_RXDATA_RD: the last byte received, and `RXR` is cleared (R194). -/
def execUartRxdataRd (sz : Width) (s : State) : Result :=
  .next ({ s with rxr := false }.readDone sz (s.rxByte.setWidth 32))

/-- UART_TXDATA_WR: the byte is handed to the TX channel, or the transaction holds until the channel accepts (R196, R197). -/
def execUartTxdataWr (data : Word) (s : State) : Result :=
  if s.txReady then .next ({ s with txs := true, txOut := s.txOut ++ [txByte data] }.respond .done)
  else .next s.held

/-- UART_RXDATA_WR: a write of the read-only offset (R195). -/
def execUartRxdataWr (sz : Width) (data : Word) (s : State) : Result :=
  .next (s.rejected .unmappedWrite .uart uoffRxdata sz data)

/-- UART_TXDATA_RD: a read of the write-only offset (R195). -/
def execUartTxdataRd (sz : Width) (s : State) : Result := .next (s.rejectedRead .uart uoffTxdata sz)

/-- UART_UNMAPPED_RD (R190). -/
def execUartUnmappedRd (sz : Width) (off : Offset) (s : State) : Result := .next (s.rejectedRead .uart off sz)

/-- UART_UNMAPPED_WR (R190). -/
def execUartUnmappedWr (sz : Width) (off : Offset) (data : Word) (s : State) : Result :=
  .next (s.rejected .unmappedWrite .uart off sz data)

end Sys2Proof.Machine
end

