-- ==== Sys2Proof/Machine/Dispatch.lean ====
section
/-! DEFINITION. Dispatch: one arm per transaction class, each a direct call of its meaning (40_dispatcher.md R100). -/

namespace Sys2Proof.Machine

def exec (i : Instr) (s : State) : Host.Outcome State Fault Refusal :=
  match i with
  | .anyW8 _ _ _ _ => Sys2Proof.Machine.execAnyW8 s
  | .nvmStatusRd sz _ => Sys2Proof.Machine.execNvmStatusRd sz s
  | .nvmStatusWr _ data => Sys2Proof.Machine.execNvmStatusWr data s
  | .nvmOpBuferase sz => Sys2Proof.Machine.execNvmOpBuferase sz s
  | .nvmOpPageerase sz => Sys2Proof.Machine.execNvmOpPageerase sz s
  | .nvmOpProg4 sz => Sys2Proof.Machine.execNvmOpProg4 sz s
  | .nvmOpProg5 sz => Sys2Proof.Machine.execNvmOpProg5 sz s
  | .nvmOpProgC sz => Sys2Proof.Machine.execNvmOpProgC sz s
  | .nvmOpProgE sz => Sys2Proof.Machine.execNvmOpProgE sz s
  | .nvmOpUnimpl0 sz => Sys2Proof.Machine.execNvmOpUnimpl0 sz s
  | .nvmOpUnimpl1 sz => Sys2Proof.Machine.execNvmOpUnimpl1 sz s
  | .nvmOpUnimpl3 sz => Sys2Proof.Machine.execNvmOpUnimpl3 sz s
  | .nvmOpUnimpl6 sz => Sys2Proof.Machine.execNvmOpUnimpl6 sz s
  | .nvmOpUnimpl7 sz => Sys2Proof.Machine.execNvmOpUnimpl7 sz s
  | .nvmOpUnimpl8 sz => Sys2Proof.Machine.execNvmOpUnimpl8 sz s
  | .nvmOpUnimpl9 sz => Sys2Proof.Machine.execNvmOpUnimpl9 sz s
  | .nvmOpUnimplB sz => Sys2Proof.Machine.execNvmOpUnimplB sz s
  | .nvmOpUnimplD sz => Sys2Proof.Machine.execNvmOpUnimplD sz s
  | .nvmOpUnimplF sz => Sys2Proof.Machine.execNvmOpUnimplF sz s
  | .nvmOpBadmagic sz data => Sys2Proof.Machine.execNvmOpBadmagic sz data s
  | .nvmKeyRegionWr _ data => Sys2Proof.Machine.execNvmKeyRegionWr data s
  | .nvmKeyParamWr _ data => Sys2Proof.Machine.execNvmKeyParamWr data s
  | .nvmKeyGlobalWr _ data => Sys2Proof.Machine.execNvmKeyGlobalWr data s
  | .nvmWoRd04 sz _ => Sys2Proof.Machine.execNvmWoRd04 sz s
  | .nvmWoRd20 sz _ => Sys2Proof.Machine.execNvmWoRd20 sz s
  | .nvmWoRd24 sz _ => Sys2Proof.Machine.execNvmWoRd24 sz s
  | .nvmWoRd28 sz _ => Sys2Proof.Machine.execNvmWoRd28 sz s
  | .nvmUnmappedRd sz off _ => Sys2Proof.Machine.execNvmUnmappedRd sz off s
  | .nvmUnmappedWr sz off data => Sys2Proof.Machine.execNvmUnmappedWr sz off data s
  | .uartStatusRd sz _ => Sys2Proof.Machine.execUartStatusRd sz s
  | .uartStatusWr _ data => Sys2Proof.Machine.execUartStatusWr data s
  | .uartRxdataRd sz _ => Sys2Proof.Machine.execUartRxdataRd sz s
  | .uartTxdataWr _ data => Sys2Proof.Machine.execUartTxdataWr data s
  | .uartRxdataWr sz data => Sys2Proof.Machine.execUartRxdataWr sz data s
  | .uartTxdataRd sz _ => Sys2Proof.Machine.execUartTxdataRd sz s
  | .uartUnmappedRd sz off _ => Sys2Proof.Machine.execUartUnmappedRd sz off s
  | .uartUnmappedWr sz off data => Sys2Proof.Machine.execUartUnmappedWr sz off data s
  | .stgCodeSt4 off data => Sys2Proof.Machine.execStgCodeSt4 off data s
  | .stgCodeStMisaligned _ _ => Sys2Proof.Machine.execStgCodeStMisaligned s
  | .stgCodeWrBadwidth _ _ _ => Sys2Proof.Machine.execStgCodeWrBadwidth s
  | .stgCodeRd sz _ _ => Sys2Proof.Machine.execStgCodeRd sz s
  | .stgParamSt4 off data => Sys2Proof.Machine.execStgParamSt4 off data s
  | .stgParamStMisaligned _ _ => Sys2Proof.Machine.execStgParamStMisaligned s
  | .stgParamWrBadwidth _ _ _ => Sys2Proof.Machine.execStgParamWrBadwidth s
  | .stgParamRd sz _ _ => Sys2Proof.Machine.execStgParamRd sz s

end Sys2Proof.Machine
end

