-- ==== Sys2Proof/Machine/Environment.lean ====
section
/-! DEFINITION. The steps of the external agents: RXDELIVER (44_uart.md R198), the TX channel (R197) and RESET (70_reset_and_hazards.md R252); which of them may move; and what the host may do outside the run: preload storage (R251), save and restore (R258). -/

namespace Sys2Proof.Machine

/-- The values that draw `n` leaves wherever creation, reset or restore leaves a value unspecified: the page buffer and the staging pointer (R33, R258). -/
def State.redrawNvm (s : State) (n : Nat) : State :=
  { s with
    pagebuf := drawnPagebuf n
    stgRegion := regionOfId (Config.drawRegionId n)
    stgAddr := Config.drawStgAddr n }

/-- RESET (R252): the keys and `eint` are cleared, storage stays, every other register of the block is drawn.
The refusal mark, the log and the agents' own state are unchanged. -/
def resetBlock (s : State) : State :=
  { s.redrawNvm s.draws with
    keyRegion := false
    keyParam := false
    keyGlobal := false
    eint := false
    rxByte := Config.drawRxByte s.draws
    rxr := Config.drawRxr s.draws
    txs := Config.drawTxs s.draws
    draws := s.draws + 1 }

/-- RXDELIVER `b` (R198). -/
def rxDeliver (b : Byte) (s : State) : State := { s with rxByte := b, rxr := true }

/-- The guest's transmit is waiting for the TX channel (R197). -/
def State.holding (s : State) : Bool := s.response == .hold

/-- Which moves exist now: no delivery over an unread byte (R198, R199), no delivery and no reset inside a holding transmit (R64). -/
def State.enabled (s : State) : Move → Bool
  | .guest => true
  | .rxDeliver _ => !s.rxr && !s.holding
  | .txReady _ => true
  | .reset => !s.holding

/-- The first move of a schedule that is enabled, and the schedule without it; the guest's move when none is (R9, R61).
A move that is not enabled stays: the channel keeps its byte (R199).
DESIGN CHOICE (log 2): the rule that picks the move. -/
def pickMove (enabled : Move → Bool) : List Move → Move × List Move
  | [] => (.guest, [])
  | m :: ms => if enabled m then (m, ms) else ((pickMove enabled ms).1, m :: (pickMove enabled ms).2)

/-- The state with `rest` as the moves still to come. -/
def State.withSchedule (s : State) (rest : List Move) : State := { s with schedule := rest }

/-- The host fills a backing buffer before the guest's first step: INIT_STORAGE (R251).
Bytes past the region's size are not taken. -/
def State.preload (s : State) (r : Region) (bs : List Byte) : State :=
  s.setStorage r (Memory.put [] 0 (bs.take (s.cfg.size r)))

/-- What the host's save persists (R258). -/
structure Snapshot where
  eint : Bool
  keyRegion : Bool
  keyParam : Bool
  keyGlobal : Bool
  rxByte : Byte
  rxr : Bool
  txs : Bool
  storageCode : Memory
  storageParam : Memory
  deriving DecidableEq, Repr

/-- The snapshot of a state (R258). -/
def State.save (s : State) : Snapshot :=
  ⟨s.eint, s.keyRegion, s.keyParam, s.keyGlobal, s.rxByte, s.rxr, s.txs, s.storageCode, s.storageParam⟩

/-- Restore exactly the persisted fields; the page buffer and the staging pointer are drawn (R258).
No step takes it: save and restore are out of scope (R5). -/
def State.restore (s : State) (p : Snapshot) : State :=
  { s.redrawNvm s.draws with
    eint := p.eint
    keyRegion := p.keyRegion
    keyParam := p.keyParam
    keyGlobal := p.keyGlobal
    rxByte := p.rxByte
    rxr := p.rxr
    txs := p.txs
    storageCode := p.storageCode
    storageParam := p.storageParam
    draws := s.draws + 1 }

end Sys2Proof.Machine
end

