-- ==== Sys2Proof/Machine/Guest.lean ====
section
/-! DEFINITION. The guest's move, and a move of any agent (00_scope.md R9, 10_state.md R21). -/

namespace Sys2Proof.Machine

/-- The guest's next transaction: the descriptor at the transaction index (R21). -/
def State.fetch (s : State) : Option Descriptor := s.program[s.index]?

/-- The guest's move: it issues its next transaction, which runs to completion (R61).
An ill-formed descriptor is `refuse(DESCRIPTOR)` (R71, R225); with no transaction left the block waits (R253). -/
def guestMove (s : State) : Result :=
  match s.fetch with
  | none => .next s
  | some w =>
    match decodeChecked s.cfg w with
    | .ok i => exec i s
    | .error .descriptor => .next (s.refuse .descriptor)

/-- One agent's move. -/
def runMove (m : Move) (s : State) : Result :=
  match m with
  | .guest => guestMove s
  | .rxDeliver b => .next (rxDeliver b s)
  | .txReady ready => .next { s with txReady := ready }
  | .reset => .next (resetBlock s)

/-- The step that comes next: the picked move, run with it taken off the schedule (R61). -/
def agentStep (s : State) : Result :=
  runMove (pickMove s.enabled s.schedule).1 (s.withSchedule (pickMove s.enabled s.schedule).2)

/-- The guest's program is the one transaction `w`, still to be issued, and no other agent is about to move. -/
def State.withTransaction (s : State) (w : Descriptor) : State :=
  { s with program := [w], index := 0, schedule := [], refusalMark := false }

end Sys2Proof.Machine
end

