-- ==== Sys2Proof/Machine/Step.lean ====
section
/-! DEFINITION. One step of the machine, and the host's way to place one instruction where the next step fetches it. -/

namespace Sys2Proof.Machine

/-- One step (R9, R61): a run whose refusal mark is set has stopped (R21); else the next agent moves. -/
def step (s : State) : Host.Outcome State Fault Refusal :=
  if s.refusalMark then .refused .runStopped else agentStep s

/-- `s` with the instruction whose bits are `w` as the guest's one transaction, which the next step issues.
A descriptor is one 64-bit word, so the bits above `nbits` are 0 as they stand. -/
def State.withFetchWord (s : State) (_nbits w : Nat) : State := s.withTransaction (BitVec.ofNat 64 w)

end Sys2Proof.Machine
end

