-- ==== Sys2Proof/Machine/Assembler.lean ====
section
/-! DEFINITION. The spec's textual form of a transaction and its pseudo-transactions (30_encoding.md R78, R79). No step of the machine reads them. -/

namespace Sys2Proof.Machine

/-- `ST32 <WIN>+<off>, <data>` (R78). -/
def st32 (win : Window) (off : Offset) (data : Word) : Txn := ⟨win, .wr, .upTo4 .w4, off, data⟩
/-- `LD32 <WIN>+<off>` (R78). -/
def ld32 (win : Window) (off : Offset) : Txn := ⟨win, .rd, .upTo4 .w4, off, 0⟩

/-- `UNLOCK` (R79). -/
def pseudoUnlock : List Txn :=
  [st32 .reg offKeyRegion sentRegion, st32 .reg offKeyParam sentParam, st32 .reg offKeyGlobal sentGlobal]
/-- `RELOCK` (R79). -/
def pseudoRelock : List Txn := [st32 .reg offKeyRegion 0]
/-- `NVMOP n` (R79). -/
def pseudoNvmop (n : BitVec 4) : List Txn := [st32 .reg offOpcode (opWord n)]
/-- `BUFERASE` (R79). -/
def pseudoBuferase : List Txn := pseudoNvmop 0x2
/-- `PAGEERASE` (R79). -/
def pseudoPageerase : List Txn := pseudoNvmop 0xA
/-- `PROGRAM` (R79). -/
def pseudoProgram : List Txn := pseudoNvmop 0x4
/-- `ACK` (R79). -/
def pseudoAck : List Txn := [st32 .reg offStatus 0]
/-- `STAT` (R79). -/
def pseudoStat : List Txn := [ld32 .reg offStatus]
/-- `STAGE <W>, <off>, <v>` (R79). -/
def pseudoStage (win : Window) (off : Offset) (v : Word) : List Txn := [st32 win off v]
/-- `STAGEPAGE <W>, <pbase>, b` (R79): word `k` holds bytes `4k` to `4k+3`, the first one most significant. -/
def pseudoStagepage (win : Window) (pbase : Offset) (b : Nat → Byte) : List Txn :=
  (List.range 128).map fun k =>
    st32 win (pbase + BitVec.ofNat 27 (4 * k)) (composeBytes [b (4 * k), b (4 * k + 1), b (4 * k + 2), b (4 * k + 3)])
/-- `PUTC b` (R79). -/
def pseudoPutc (b : Byte) : List Txn := [st32 .uart uoffTxdata (b.setWidth 32)]
/-- `GETC` (R79). -/
def pseudoGetc : List Txn := [ld32 .uart uoffRxdata]
/-- `USTAT` (R79). -/
def pseudoUstat : List Txn := [ld32 .uart uoffStatus]
/-- `TXCANCEL` (R79). -/
def pseudoTxcancel : List Txn := [st32 .uart uoffStatus 0]

/-- A number in hexadecimal, capitals for the digits above 9 (R78). -/
def hexText (n : Nat) : String := "0x" ++ String.ofList ((Nat.toDigits 16 n).map Char.toUpper)

/-- The name of a window (R78). -/
def windowText : Window → String
  | .reg => "REG"
  | .uart => "UART"
  | .code => "CODE"
  | .param => "PARAM"

/-- The bit count of a size (R78). -/
def sizeText : Size → String
  | .upTo4 .w1 => "8"
  | .upTo4 .w2 => "16"
  | .upTo4 .w4 => "32"
  | .w8 => "64"

/-- A transaction in the spec's textual form (R78). -/
def txnText (t : Txn) : String :=
  match t.dir with
  | .rd => "LD" ++ sizeText t.sz ++ " " ++ windowText t.win ++ "+" ++ hexText t.off.toNat
  | .wr =>
    "ST" ++ sizeText t.sz ++ " " ++ windowText t.win ++ "+" ++ hexText t.off.toNat ++ ", " ++ hexText t.data.toNat

end Sys2Proof.Machine
end

