-- ==== Sys2Proof/Safety.lean ====
section
/-! DEFINITION. What counts as a good state, in the terms the statements use: the machine's invariant, the launch premise of 70_reset_and_hazards.md R256, and the parts of the state that rules speak of as a whole. -/

namespace Sys2Proof.Machine

/-- The machine's invariant: the configuration is one the spec allows (R7), each storage array is in canonical form and inside its region (R27, R175), and the transaction index is a position of the program (R21). -/
def State.Inv (s : State) : Bool :=
  s.cfg.wf && s.storageCode.wf && s.storageParam.wf &&
    s.storageCode.within s.cfg.codeSize && s.storageParam.within s.cfg.paramSize &&
    s.index ≤ s.program.length

/-- The launch premise `CleanEntry` (R256). -/
def State.cleanEntry (s : State) : Bool :=
  !s.keyRegion && !s.keyParam && !s.keyGlobal && !s.eint && !s.rxr && !s.txs && !s.refusalMark

/-- The block's architectural state (R33): everything but the configuration, the agents and the model-only state. -/
structure Arch where
  keyRegion : Bool
  keyParam : Bool
  keyGlobal : Bool
  eint : Bool
  pagebuf : Vector Byte 512
  stgRegion : Option Region
  stgAddr : Word
  storageCode : Memory
  storageParam : Memory
  rxByte : Byte
  rxr : Bool
  txs : Bool
  deriving DecidableEq, Repr

/-- The architectural state of a state. -/
def State.arch (s : State) : Arch where
  keyRegion := s.keyRegion
  keyParam := s.keyParam
  keyGlobal := s.keyGlobal
  eint := s.eint
  pagebuf := s.pagebuf
  stgRegion := s.stgRegion
  stgAddr := s.stgAddr
  storageCode := s.storageCode
  storageParam := s.storageParam
  rxByte := s.rxByte
  rxr := s.rxr
  txs := s.txs

/-- A result with its next state changed by `f`. -/
def mapNext (f : State → State) : Result → Result
  | .next s => .next (f s)
  | .fault r => .fault r
  | .refused r => .refused r

/-- The transactions `is` one after the other, stopping at a fault or a refusal. -/
def execAll : List Instr → State → Result
  | [], s => .next s
  | i :: is, s =>
    match exec i s with
    | .next t => execAll is t
    | .fault r => .fault r
    | .refused r => .refused r

/-- The run goes on, and the agent that moves next is `m`; `rest` is what then remains of the schedule. -/
def State.moves (s : State) (m : Move) (rest : List Move) : Prop :=
  s.refusalMark = false ∧ pickMove s.enabled s.schedule = (m, rest)

/-- The next step is the guest's, whose next transaction is the descriptor `w`. -/
def State.fetches (s : State) (w : Descriptor) (rest : List Move) : Prop :=
  s.moves .guest rest ∧ s.fetch = some w

/-- The next step is the guest's, whose next transaction decodes to the well-formed instruction `i`. -/
def State.issues (s : State) (i : Instr) (rest : List Move) : Prop :=
  ∃ w, s.fetches w rest ∧ decode w = i ∧ i.wellFormed s.cfg = true

/-- The three preconditions of an operation hold, and it targets the page at `a` of region `r` (R162, R163, R164). -/
def State.targets (s : State) (r : Region) (a : Nat) : Prop :=
  (s.keyRegion = true ∧ s.keyParam = true ∧ s.keyGlobal = true) ∧ s.stgRegion = some r ∧
    a = (s.stgAddr &&& 0xFFFFFE00#32).toNat ∧ a < s.cfg.size r

/-- The reason of the first precondition that fails where no page is a target, in R160's order: a key missing (R162); else no recognized staged region (R163); else a staged page outside its region (R164). -/
def State.failedPrecondition (s : State) : Reason :=
  if ¬(s.keyRegion = true ∧ s.keyParam = true ∧ s.keyGlobal = true) then .opLocked
  else if s.stgRegion = none then .opBadRegion
  else .opOutOfRange

/-- A trigger `i` of width `sz` on which no page is a target is rejected: one event, for the first precondition that failed, and no state of the block changes (R160, R162, R163, R164). -/
def State.rejectsUntargeted (s : State) (sz : Width) (i : Instr) : Prop :=
  (∀ r a, ¬s.targets r a) → exec i s = .next { s with
    log := s.log ++ [⟨s.failedPrecondition, .reg, 0x04, sz, i.txn.data⟩], response := .reject s.failedPrecondition,
    index := s.index + 1 }

/-- The four page-program triggers (R170 to R173). -/
def programTriggers (sz : Width) : List Instr := [.nvmOpProg4 sz, .nvmOpProg5 sz, .nvmOpProgC sz, .nvmOpProgE sz]

/-- The six triggers with an effect (R166 to R173). -/
def effectTriggers (sz : Width) : List Instr := .nvmOpBuferase sz :: .nvmOpPageerase sz :: programTriggers sz

/-- The ten unimplemented triggers (R174). -/
def unimplTriggers (sz : Width) : List Instr :=
  [.nvmOpUnimpl0 sz, .nvmOpUnimpl1 sz, .nvmOpUnimpl3 sz, .nvmOpUnimpl6 sz, .nvmOpUnimpl7 sz,
    .nvmOpUnimpl8 sz, .nvmOpUnimpl9 sz, .nvmOpUnimplB sz, .nvmOpUnimplD sz, .nvmOpUnimplF sz]

/-- The sixteen triggers with the right magic (R74). -/
def goodTriggers (sz : Width) : List Instr := effectTriggers sz ++ unimplTriggers sz

/-- The value the last write to the region key offset among `is` carried. -/
def lastRegionKey (is : List Instr) : Option Word :=
  (is.filterMap fun i => match i with | .nvmKeyRegionWr _ d => some d | _ => none).getLast?

/-- The value the last write to the param key offset among `is` carried. -/
def lastParamKey (is : List Instr) : Option Word :=
  (is.filterMap fun i => match i with | .nvmKeyParamWr _ d => some d | _ => none).getLast?

/-- The value the last write to the global key offset among `is` carried. -/
def lastGlobalKey (is : List Instr) : Option Word :=
  (is.filterMap fun i => match i with | .nvmKeyGlobalWr _ d => some d | _ => none).getLast?

/-- A key bit after the last write to its offset: whether that write matched the sentinel, or the bit as it was (R123). -/
def keyAfter (old : Bool) (sentinel : Word) : Option Word → Bool
  | none => old
  | some v => v == sentinel

/-- The bytes the RX channel still has to deliver. -/
def deliveries (ms : List Move) : List Byte :=
  ms.filterMap fun m => match m with | .rxDeliver b => some b | _ => none

/-- The machine may go on from a state without a fault or a refusal. -/
def State.goesOn (s : State) : Prop := ∃ t, step s = .next t

end Sys2Proof.Machine
end

