-- ==== Sys2Proof/Certificates/Slice0/Obligations.lean ====
section
/-! DEFINITION. The statements for the provers. Each says which rule of the spec it formalises; constants stand as the spec's own numbers. -/

open Sys2Proof Sys2Proof.Machine

/-! Decoding and encoding (30_encoding.md) -/

/-- R70: the descriptor word of a transaction, field by field. -/
def Obligations.DescriptorFieldLayout : Prop :=
  ∀ t : Txn, t.toDescriptor.toNat =
    (match t.win with | .reg => 0 | .uart => 1 | .code => 2 | .param => 3) * 2 ^ 62 +
    (match t.dir with | .rd => 0 | .wr => 1) * 2 ^ 61 +
    (match t.sz with | .upTo4 .w1 => 0 | .upTo4 .w2 => 1 | .upTo4 .w4 => 2 | .w8 => 3) * 2 ^ 59 +
    t.off.toNat * 2 ^ 32 + t.data.toNat

/-- R71: the decoder accepts a word exactly when the descriptor's offset is inside its window, a write's data fits its size, and a read's data is 0; it refuses every other word as an ill-formed descriptor. -/
def Obligations.WellFormedIffR71 : Prop :=
  ∀ (c : Config) (w : Descriptor),
    decodeChecked c w =
      if (Txn.ofDescriptor w).off.toNat < c.winSize (Txn.ofDescriptor w).win ∧
          ((Txn.ofDescriptor w).dir = .wr →
            (Txn.ofDescriptor w).data.toNat < 2 ^ (8 * sizeBytes (Txn.ofDescriptor w).sz)) ∧
          ((Txn.ofDescriptor w).dir = .rd → (Txn.ofDescriptor w).data = 0)
      then .ok (decode w) else .error .descriptor

/-- R72: the decoder takes the first row of the opcode table that the word matches. That every word has one, an ill-formed one too, is the model's (log 10): R72 says it, as derived, of well-formed descriptors, and R71 has the decoder of a step refuse the others. -/
def Obligations.DecodeTakesFirstTableRow : Prop :=
  ∀ w : Descriptor, (opcodeRows.find? fun r => r.matchesWord w).map OpcodeRow.mnemonic = some (decode w).mnemonic

/-- Decoding the encoding of an instruction that belongs to its own row gives it back, with every operand. -/
def Obligations.EncodeThenDecode : Prop := ∀ i : Instr, i.inRow = true → decode (encode i) = i

/-- Every word is the encoding of the instruction it decodes to, which belongs to its own row: no bit is dropped. -/
def Obligations.DecodeThenEncode : Prop := ∀ w : Descriptor, encode (decode w) = w ∧ (decode w).inRow = true

/-- Words written out from R70's fields decode to the transaction classes they stand for. -/
def Obligations.WrittenOutWordsDecode : Prop :=
  decode 0x3000000457AF6C0A = .nvmOpPageerase .w4 ∧
  decode 0x5000001400000000 = .uartRxdataRd .w4 0 ∧
  decode 0xB000010011223344 = .stgCodeSt4 0x100 0x11223344 ∧
  decode 0x28000020_0000AA55 = .nvmKeyRegionWr .w2 0xAA55 ∧
  decode 0x00000003_00000000 = .nvmUnmappedRd .w1 0x03 0 ∧
  decode 0x18000000_00000000 = .anyW8 .reg .rd 0 0

/-- R53's consequences: a well-formed 1- or 2-byte write to a key offset clears that key, and one to NVM_OPCODE is bad magic. -/
def Obligations.NarrowWritesNeverUnlockOrTrigger : Prop :=
  (∀ (sz : Width) (data : Word) (s : State), sz ≠ .w4 →
    ((Instr.nvmKeyRegionWr sz data).wellFormed s.cfg = true →
      ∃ t, exec (.nvmKeyRegionWr sz data) s = .next t ∧ t.keyRegion = false) ∧
    ((Instr.nvmKeyParamWr sz data).wellFormed s.cfg = true →
      ∃ t, exec (.nvmKeyParamWr sz data) s = .next t ∧ t.keyParam = false) ∧
    ((Instr.nvmKeyGlobalWr sz data).wellFormed s.cfg = true →
      ∃ t, exec (.nvmKeyGlobalWr sz data) s = .next t ∧ t.keyGlobal = false)) ∧
  (∀ (c : Config) (w : Descriptor) (sz : Width), sz ≠ .w4 → (decode w).wellFormed c = true →
    (Txn.ofDescriptor w).win = .reg → (Txn.ofDescriptor w).dir = .wr → (Txn.ofDescriptor w).off = 0x04 →
    (Txn.ofDescriptor w).sz = .upTo4 sz → decode w = .nvmOpBadmagic sz (Txn.ofDescriptor w).data)

/-! A step (00_scope.md, 10_state.md) -/

/-- A step runs the decoded instruction: when the guest moves and its next word decodes to the well-formed `i`, the step is `exec i` on the state with the move taken off the schedule; the index moves inside `exec` (R21). -/
def Obligations.StepRunsDecodedInstruction : Prop :=
  ∀ (s : State) (i : Instr) (rest : List Move), s.issues i rest → step s = exec i (s.withSchedule rest)

/-- R71, R225: an ill-formed descriptor is `refuse(DESCRIPTOR)`, whatever it would decode to. -/
def Obligations.IllFormedDescriptorRefused : Prop :=
  ∀ (s : State) (w : Descriptor) (rest : List Move), s.fetches w rest → (decode w).wellFormed s.cfg = false →
    step s = .next { s with schedule := rest, refusalMark := true, response := .refuse .descriptor }

/-- R21, R32: a run whose refusal mark is set takes no further step, and no step clears the mark. -/
def Obligations.RefusalMarkStopsTheRun : Prop :=
  (∀ s : State, s.refusalMark = true → step s = .refused .runStopped) ∧
  (∀ (i : Instr) (s t : State), s.refusalMark = true → exec i s = .next t → t.refusalMark = true)

/-- R21: a transaction advances the index by one whatever its outcome, but for `hold`, which leaves it, and `refuse`, which leaves it and sets the refusal mark. -/
def Obligations.TransactionIndexAdvances : Prop :=
  ∀ (i : Instr) (s t : State), exec i s = .next t →
    (t.response = .hold → t.index = s.index) ∧
    (∀ r, t.response = .refuse r → t.index = s.index ∧ t.refusalMark = true) ∧
    (¬(t.response = .hold ∨ ∃ r, t.response = .refuse r) → t.index = s.index + 1)

/-! 8-byte accesses, NVM_STATUS, write-only and unmapped offsets (20_memory.md, 40_dispatcher.md) -/

/-- R54: an 8-byte access in any window is `refuse(WIDTH8)`: the refusal mark is set, nothing else happens. -/
def Obligations.EightByteAccessRefused : Prop :=
  ∀ (win : Window) (dir : Dir) (off : Offset) (data : Word) (s : State),
    exec (.anyW8 win dir off data) s = .next { s with refusalMark := true, response := .refuse .width8 }

/-- R101: a read of NVM_STATUS returns `eint` in bit 1, at every width, and changes no state of the block. -/
def Obligations.NvmStatusReadShowsEint : Prop :=
  ∀ (sz : Width) (data : Word) (s : State),
    (Instr.nvmStatusRd sz data).txn = ⟨.reg, .rd, .upTo4 sz, 0x00, data⟩ ∧
    exec (.nvmStatusRd sz data) s =
      .next { s with response := .value sz (if s.eint then 0x00000002 else 0), index := s.index + 1 }

/-- R102: a write of NVM_STATUS with bit 1 clear clears `eint`; with bit 1 set it leaves `eint`; no other field changes, locked or not. -/
def Obligations.NvmStatusWriteAcknowledges : Prop :=
  ∀ (sz : Width) (data : Word) (s : State),
    (Instr.nvmStatusWr sz data).txn = ⟨.reg, .wr, .upTo4 sz, 0x00, data⟩ ∧
    exec (.nvmStatusWr sz data) s =
      .next { s with eint := s.eint && data[1], response := .done, index := s.index + 1 }

/-- R104: an unmapped REG access is logged; a read returns 0, a write is ignored; no state of the block changes. -/
def Obligations.UnmappedRegAccessIgnored : Prop :=
  ∀ (sz : Width) (off : Offset) (data : Word) (s : State),
    exec (.nvmUnmappedRd sz off data) s =
      .next { s with
        log := s.log ++ [⟨.unmappedRead, .reg, off, sz, 0⟩], response := .rejectValue .unmappedRead sz 0, index := s.index + 1 } ∧
    exec (.nvmUnmappedWr sz off data) s =
      .next { s with
        log := s.log ++ [⟨.unmappedWrite, .reg, off, sz, data⟩], response := .reject .unmappedWrite, index := s.index + 1 } ∧
    (Instr.nvmUnmappedRd sz off data).txn = ⟨.reg, .rd, .upTo4 sz, off, data⟩ ∧
    (Instr.nvmUnmappedWr sz off data).txn = ⟨.reg, .wr, .upTo4 sz, off, data⟩ ∧
    ∀ i ∈ [Instr.nvmUnmappedRd sz off data, .nvmUnmappedWr sz off data],
      (i.inRow = true ↔ off ≠ 0x00 ∧ off ≠ 0x04 ∧ off ≠ 0x20 ∧ off ≠ 0x24 ∧ off ≠ 0x28)

/-- R105: a read of NVM_OPCODE or of a key register returns 0, is logged, triggers nothing and reveals no key. -/
def Obligations.WriteOnlyOffsetsReadZero : Prop :=
  ∀ (sz : Width) (data : Word) (s : State), ∀ p ∈ [(Instr.nvmWoRd04 sz data, (0x04 : Offset)),
      (.nvmWoRd20 sz data, 0x20), (.nvmWoRd24 sz data, 0x24), (.nvmWoRd28 sz data, 0x28)],
    p.1.txn = ⟨.reg, .rd, .upTo4 sz, p.2, data⟩ ∧
    exec p.1 s = .next { s with
      log := s.log ++ [⟨.unmappedRead, .reg, p.2, sz, 0⟩], response := .rejectValue .unmappedRead sz 0, index := s.index + 1 }

/-! Keys (41_key_unlock.md) -/

/-- R120, R121, R122: a key write sets its own key when the data is that key's sentinel and clears it otherwise; it changes no other field and logs nothing. -/
def Obligations.KeyWriteComparesSentinel : Prop :=
  ∀ (sz : Width) (data : Word) (s : State),
    (Instr.nvmKeyRegionWr sz data).txn = ⟨.reg, .wr, .upTo4 sz, 0x20, data⟩ ∧
    exec (.nvmKeyRegionWr sz data) s =
      .next { s with keyRegion := decide (data = 0xAA55AA55), response := .done, index := s.index + 1 } ∧
    (Instr.nvmKeyParamWr sz data).txn = ⟨.reg, .wr, .upTo4 sz, 0x24, data⟩ ∧
    exec (.nvmKeyParamWr sz data) s =
      .next { s with keyParam := decide (data = 0x55AA55AA), response := .done, index := s.index + 1 } ∧
    (Instr.nvmKeyGlobalWr sz data).txn = ⟨.reg, .wr, .upTo4 sz, 0x28, data⟩ ∧
    exec (.nvmKeyGlobalWr sz data) s =
      .next { s with keyGlobal := decide (data = 0xA5A55A5A), response := .done, index := s.index + 1 }

/-- R125: a key write takes the unlock mask to `(UNLOCK & ~(1 << k)) | ((v == S_k) << k)`; every mask is reached by three key writes; the block is unlocked in mask 7 only. -/
def Obligations.UnlockMaskTransition : Prop :=
  (∀ (sz : Width) (v : Word) (s : State), ∀ p ∈ [(Instr.nvmKeyRegionWr sz v, 0, (0xAA55AA55 : Word)),
      (.nvmKeyParamWr sz v, 1, 0x55AA55AA), (.nvmKeyGlobalWr sz v, 2, 0xA5A55A5A)],
    ∃ t, exec p.1 s = .next t ∧
      t.unlockMask = (s.unlockMask &&& ~~~(1#3 <<< p.2.1)) ||| ((if v = p.2.2 then 1#3 else 0#3) <<< p.2.1)) ∧
  (∀ (s : State) (m : BitVec 3), ∃ (a b c : Word) (t : State),
    execAll [.nvmKeyRegionWr .w4 a, .nvmKeyParamWr .w4 b, .nvmKeyGlobalWr .w4 c] s = .next t ∧ t.unlockMask = m) ∧
  (∀ s : State, s.unlocked = true ↔ s.unlockMask = 7)

/-- R123: after any sequence of transactions each key is what the last write to its offset made it, so the gate depends on those three writes alone, in any order, with anything in between. -/
def Obligations.UnlockDependsOnLastKeyWrites : Prop :=
  ∀ (is : List Instr) (s t : State), execAll is s = .next t →
    t.keyRegion = keyAfter s.keyRegion 0xAA55AA55 (lastRegionKey is) ∧
    t.keyParam = keyAfter s.keyParam 0x55AA55AA (lastParamKey is) ∧
    t.keyGlobal = keyAfter s.keyGlobal 0xA5A55A5A (lastGlobalKey is) ∧
    t.unlocked = (t.keyRegion && t.keyParam && t.keyGlobal)

/-- R23, R124: a step changes a key only by RESET or by the guest's write to that key's own offset, so no transaction clears two keys. -/
def Obligations.KeysChangeOnlyByOwnWrite : Prop :=
  ∀ s t : State, step s = .next t →
    (t.keyRegion ≠ s.keyRegion → ∃ rest, s.moves .reset rest ∨ ∃ sz d, s.issues (.nvmKeyRegionWr sz d) rest) ∧
    (t.keyParam ≠ s.keyParam → ∃ rest, s.moves .reset rest ∨ ∃ sz d, s.issues (.nvmKeyParamWr sz d) rest) ∧
    (t.keyGlobal ≠ s.keyGlobal → ∃ rest, s.moves .reset rest ∨ ∃ sz d, s.issues (.nvmKeyGlobalWr sz d) rest)

/-! The page buffer and staging (42_page_buffer.md) -/

/-- R140: a staging store while any key is missing is dropped: no state of the block changes, no event. -/
def Obligations.LockedStagingDropped : Prop :=
  ∀ (off : Offset) (data : Word) (s : State), ¬(s.keyRegion = true ∧ s.keyParam = true ∧ s.keyGlobal = true) →
    ∀ i ∈ [Instr.stgCodeSt4 off data, .stgParamSt4 off data],
      exec i s = .next { s with response := .drop, index := s.index + 1 }

/-- R141, R146, R147: an accepted staging store writes its four bytes big-endian into the page buffer from `off & 511`, records the window's region and the whole offset, and changes nothing else. -/
def Obligations.AcceptedStagingStore : Prop :=
  ∀ (off : Offset) (data : Word) (s : State), s.keyRegion = true → s.keyParam = true → s.keyGlobal = true →
    off.toNat % 4 = 0 →
    ∀ p ∈ [(Instr.stgCodeSt4 off data, Region.userCode), (.stgParamSt4 off data, .userParam)],
      off.toNat + 4 ≤ s.cfg.size p.2 →
      ∃ t, exec p.1 s = .next t ∧
        (∀ (k : Nat) (hk : k < 512), t.pagebuf[k] =
          if k = off.toNat % 512 then data.extractLsb' 24 8
          else if k = off.toNat % 512 + 1 then data.extractLsb' 16 8
          else if k = off.toNat % 512 + 2 then data.extractLsb' 8 8
          else if k = off.toNat % 512 + 3 then data.extractLsb' 0 8
          else s.pagebuf[k]) ∧
        { t with pagebuf := s.pagebuf } = { s with
          stgRegion := some p.2, stgAddr := BitVec.ofNat 32 off.toNat, response := .done, index := s.index + 1 }

/-- R142: past the unlock gate, a store that would end beyond the region is rejected and logged with no state change; with a legal configuration no well-formed aligned store is. -/
def Obligations.StagingBoundsCheck : Prop :=
  (∀ (off : Offset) (data : Word) (s : State), s.keyRegion = true → s.keyParam = true → s.keyGlobal = true →
    (s.cfg.codeSize < off.toNat + 4 → exec (.stgCodeSt4 off data) s = .next { s with
      log := s.log ++ [⟨.stageOutOfBounds, .code, off, .w4, data⟩], response := .reject .stageOutOfBounds,
      index := s.index + 1 }) ∧
    (s.cfg.paramSize < off.toNat + 4 → exec (.stgParamSt4 off data) s = .next { s with
      log := s.log ++ [⟨.stageOutOfBounds, .param, off, .w4, data⟩], response := .reject .stageOutOfBounds,
      index := s.index + 1 })) ∧
  (∀ (off : Offset) (data : Word) (c : Config), c.wf = true →
    ((Instr.stgCodeSt4 off data).wellFormed c = true → off.toNat + 4 ≤ c.codeSize) ∧
    ((Instr.stgParamSt4 off data).wellFormed c = true → off.toNat + 4 ≤ c.paramSize))

/-- R143: a 4-byte staging store whose offset is no multiple of 4 is `refuse(MISALIGNED_STAGE)`, locked or not. -/
def Obligations.MisalignedStagingRefused : Prop :=
  ∀ (off : Offset) (data : Word) (s : State), ∀ i ∈ [Instr.stgCodeStMisaligned off data, .stgParamStMisaligned off data],
    exec i s = .next { s with refusalMark := true, response := .refuse .misalignedStage } ∧
    (i.inRow = true ↔ off.toNat % 4 ≠ 0)

/-- R144: a 1- or 2-byte write to a staging window is dropped, unlocked or not; the bus answers BUS_REJECT_RESPONSE. -/
def Obligations.NarrowStagingWriteDropped : Prop :=
  ∀ (sz : Width) (off : Offset) (data : Word) (s : State),
    ∀ i ∈ [Instr.stgCodeWrBadwidth sz off data, .stgParamWrBadwidth sz off data],
      exec i s = .next { s with response := .dropBus s.cfg.busRejectResponse, index := s.index + 1 } ∧
      (i.inRow = true ↔ sz = .w1 ∨ sz = .w2)

/-- R145: a read of a staging window completes with some value of its width and changes no state of the block; only the model's draw counter moves. -/
def Obligations.StagingReadReturnsSomeValue : Prop :=
  ∀ (sz : Width) (off : Offset) (data : Word) (s : State),
    ∀ i ∈ [Instr.stgCodeRd sz off data, .stgParamRd sz off data],
      ∃ v : Word, v.toNat < 2 ^ (8 * widthBytes sz) ∧
        exec i s = .next { s with response := .value sz v, index := s.index + 1, draws := s.draws + 1 }

/-- R25, R26, R31: a step changes the page buffer or the staging pointer only by RESET, by an accepted staging store, or, the page buffer alone, by a buffer erase. -/
def Obligations.StagingStateChangesOnlyAsSaid : Prop :=
  ∀ s t : State, step s = .next t →
    (t.pagebuf ≠ s.pagebuf ∨ t.stgRegion ≠ s.stgRegion ∨ t.stgAddr ≠ s.stgAddr) →
    ∃ rest, s.moves .reset rest ∨
      (s.unlocked = true ∧ ∃ off d, s.issues (.stgCodeSt4 off d) rest ∨ s.issues (.stgParamSt4 off d) rest) ∨
      (s.unlocked = true ∧ t.stgRegion = s.stgRegion ∧ t.stgAddr = s.stgAddr ∧ ∃ sz, s.issues (.nvmOpBuferase sz) rest)

/-! The operation executor (43_operation_executor.md) -/

/-- R161: a write to NVM_OPCODE with another magic is rejected as BAD_MAGIC, locked or unlocked, and changes no state of the block. -/
def Obligations.BadMagicRejected : Prop :=
  ∀ (sz : Width) (data : Word) (s : State), data.toNat / 16 ≠ 0x57AF6C0 →
    (Instr.nvmOpBadmagic sz data).txn = ⟨.reg, .wr, .upTo4 sz, 0x04, data⟩ ∧
    exec (.nvmOpBadmagic sz data) s = .next { s with
      log := s.log ++ [⟨.badMagic, .reg, 0x04, sz, data⟩], response := .reject .badMagic, index := s.index + 1 }

/-- R162, R165: with good magic and a key missing, every trigger, the unimplemented ones too, is rejected as OP_LOCKED and changes no state of the block. -/
def Obligations.LockedTriggerRejected : Prop :=
  ∀ (sz : Width) (s : State), ¬(s.keyRegion = true ∧ s.keyParam = true ∧ s.keyGlobal = true) →
    ∀ i ∈ goodTriggers sz, exec i s = .next { s with
      log := s.log ++ [⟨.opLocked, .reg, 0x04, sz, i.txn.data⟩], response := .reject .opLocked, index := s.index + 1 }

/-- R163, R165: unlocked but with an unrecognized staged region, every trigger is rejected as OP_BAD_REGION; and no step but RESET leaves such a region where there was none. -/
def Obligations.UnrecognizedRegionRejected : Prop :=
  (∀ (sz : Width) (s : State), s.keyRegion = true → s.keyParam = true → s.keyGlobal = true → s.stgRegion = none →
    ∀ i ∈ goodTriggers sz, exec i s = .next { s with
      log := s.log ++ [⟨.opBadRegion, .reg, 0x04, sz, i.txn.data⟩], response := .reject .opBadRegion,
      index := s.index + 1 }) ∧
  (∀ s t : State, step s = .next t → s.stgRegion ≠ none → (∀ rest, ¬s.moves .reset rest) → t.stgRegion ≠ none)

/-- R164, R165: with `addr_high = stg.addr & ~511` at or beyond the region's size, every trigger is rejected as OP_OUT_OF_RANGE; below it, with a legal configuration, the whole page is inside the region; and a well-formed staging store records an address below it. -/
def Obligations.OutOfRangePageRejected : Prop :=
  (∀ (sz : Width) (s : State) (r : Region), s.keyRegion = true → s.keyParam = true → s.keyGlobal = true →
    s.stgRegion = some r → s.cfg.size r ≤ (s.stgAddr &&& 0xFFFFFE00#32).toNat →
    ∀ i ∈ goodTriggers sz, exec i s = .next { s with
      log := s.log ++ [⟨.opOutOfRange, .reg, 0x04, sz, i.txn.data⟩], response := .reject .opOutOfRange,
      index := s.index + 1 }) ∧
  (∀ (s : State) (r : Region) (a : Nat), s.cfg.wf = true → s.targets r a → a % 512 = 0 ∧ a + 512 ≤ s.cfg.size r) ∧
  (∀ (c : Config) (off : Offset) (d : Word),
    ((Instr.stgCodeSt4 off d).wellFormed c = true → (stagedAddr off &&& 0xFFFFFE00#32).toNat < c.codeSize) ∧
    ((Instr.stgParamSt4 off d).wellFormed c = true → (stagedAddr off &&& 0xFFFFFE00#32).toNat < c.paramSize))

/-- R166: when the preconditions hold, buffer erase fills the page buffer with 0xFF and sets `eint`; storage, the staging pointer and the keys stay; when one fails, it is rejected with the reason of the first that fails (`State.failedPrecondition`) and no state change. -/
def Obligations.BufferEraseFillsBuffer : Prop :=
  ∀ (sz : Width) (s : State),
    (Instr.nvmOpBuferase sz).txn = ⟨.reg, .wr, .upTo4 sz, 0x04, 0x57AF6C02⟩ ∧
    (∀ r a, s.targets r a → ∃ t, exec (.nvmOpBuferase sz) s = .next t ∧
      (∀ (k : Nat) (hk : k < 512), t.pagebuf[k] = 0xFF) ∧
      { t with pagebuf := s.pagebuf } = { s with eint := true, response := .done, index := s.index + 1 }) ∧
    s.rejectsUntargeted sz (.nvmOpBuferase sz)

/-- R168: when the preconditions hold, page erase writes exactly 512 bytes of 0xFF at the target page and nowhere else, and sets `eint`; nothing else changes; when one fails, it is rejected with the reason of the first that fails (`State.failedPrecondition`) and no state change. -/
def Obligations.PageEraseErasesTargetPage : Prop :=
  ∀ (sz : Width) (s : State), s.cfg.wf = true →
    (Instr.nvmOpPageerase sz).txn = ⟨.reg, .wr, .upTo4 sz, 0x04, 0x57AF6C0A⟩ ∧
    (∀ r a, s.targets r a → ∃ t, exec (.nvmOpPageerase sz) s = .next t ∧
      (∀ x < s.cfg.size r, t.storeRead r x = if a ≤ x ∧ x < a + 512 then some 0xFF else s.storeRead r x) ∧
      t.setStorage r (s.storage r) = { s with eint := true, response := .done, index := s.index + 1 }) ∧
    s.rejectsUntargeted sz (.nvmOpPageerase sz)

/-- R170 to R173: when the preconditions hold, each of the four page programs copies the page buffer verbatim into the target page and nowhere else, whatever the page held, and sets `eint`; nothing else changes; when one fails, it is rejected with the reason of the first that fails (`State.failedPrecondition`) and no state change. -/
def Obligations.PageProgramCopiesBuffer : Prop :=
  ∀ (sz : Width) (s : State), s.cfg.wf = true →
    (programTriggers sz).map Instr.txn =
      [⟨.reg, .wr, .upTo4 sz, 0x04, 0x57AF6C04⟩, ⟨.reg, .wr, .upTo4 sz, 0x04, 0x57AF6C05⟩,
        ⟨.reg, .wr, .upTo4 sz, 0x04, 0x57AF6C0C⟩, ⟨.reg, .wr, .upTo4 sz, 0x04, 0x57AF6C0E⟩] ∧
    (∀ r a, s.targets r a → ∃ t, (∀ i ∈ programTriggers sz, exec i s = .next t) ∧
      (∀ (k : Nat) (hk : k < 512), t.storeRead r (a + k) = some s.pagebuf[k]) ∧
      (∀ x, ¬(a ≤ x ∧ x < a + 512) → t.storeRead r x = s.storeRead r x) ∧
      t.setStorage r (s.storage r) = { s with eint := true, response := .done, index := s.index + 1 }) ∧
    ∀ i ∈ programTriggers sz, s.rejectsUntargeted sz i

/-- R174: past the preconditions, each of the ten other opcodes is rejected as OP_UNIMPLEMENTED and changes no state of the block; when a precondition fails, it is rejected with the reason of the first that fails (`State.failedPrecondition`), which is never OP_UNIMPLEMENTED. -/
def Obligations.UnimplementedOpcodeRejected : Prop :=
  ∀ (sz : Width) (s : State),
    (unimplTriggers sz).map (fun i => i.txn) = (([0x57AF6C00, 0x57AF6C01, 0x57AF6C03, 0x57AF6C06, 0x57AF6C07,
      0x57AF6C08, 0x57AF6C09, 0x57AF6C0B, 0x57AF6C0D, 0x57AF6C0F] : List Word).map fun d => ⟨.reg, .wr, .upTo4 sz, 0x04, d⟩) ∧
    ∀ i ∈ unimplTriggers sz,
      (∀ r a, s.targets r a → exec i s = .next { s with
        log := s.log ++ [⟨.opUnimplemented, .reg, 0x04, sz, i.txn.data⟩], response := .reject .opUnimplemented,
        index := s.index + 1 }) ∧
      s.rejectsUntargeted sz i

/-- R167: no trigger changes a key, the staging pointer or the UART; only a buffer erase changes the page buffer; only a page erase or a page program changes storage, and only the 512 bytes of the target page. -/
def Obligations.OperationFrame : Prop :=
  ∀ (sz : Width) (s t : State), ∀ i ∈ goodTriggers sz, exec i s = .next t →
    (t.keyRegion = s.keyRegion ∧ t.keyParam = s.keyParam ∧ t.keyGlobal = s.keyGlobal) ∧
    (t.stgRegion = s.stgRegion ∧ t.stgAddr = s.stgAddr) ∧
    (t.rxByte = s.rxByte ∧ t.rxr = s.rxr ∧ t.txs = s.txs ∧ t.txReady = s.txReady ∧ t.txOut = s.txOut) ∧
    (i ≠ .nvmOpBuferase sz → t.pagebuf = s.pagebuf) ∧
    (∀ q x, t.storeRead q x ≠ s.storeRead q x →
      (i = .nvmOpPageerase sz ∨ i ∈ programTriggers sz) ∧
        ∃ a, s.targets q a ∧ a ≤ x ∧ x < a + 512)

/-- R27, R167, R175: whatever step changes a byte of storage is a page erase or a page program the guest issued while unlocked, the byte is in the page it targets, and `eint` is set. -/
def Obligations.StorageChangesOnlyByOperations : Prop :=
  ∀ (s t : State) (q : Region) (x : Nat), step s = .next t → t.storeRead q x ≠ s.storeRead q x →
    ∃ rest sz i a, s.issues i rest ∧ (i = .nvmOpPageerase sz ∨ i ∈ programTriggers sz) ∧
      s.targets q a ∧ a ≤ x ∧ x < a + 512 ∧ t.eint = true

/-- R24: `eint` rises only by a successful operation, and falls only by an acknowledge write or by RESET. -/
def Obligations.EintRisesOnlyByOperation : Prop :=
  ∀ s t : State, step s = .next t →
    (s.eint = false → t.eint = true → ∃ rest sz i r a, s.issues i rest ∧ i ∈ effectTriggers sz ∧ s.targets r a) ∧
    (s.eint = true → t.eint = false →
      ∃ rest, s.moves .reset rest ∨ ∃ sz d, s.issues (.nvmStatusWr sz d) rest ∧ d[1] = false)

/-- R168, R170: the loop of one-byte MemWrites of the pseudocode, `for i in [0, n): MemWrite(r, a + i, 1, b[i])`, is the one MemWrite of all the bytes. -/
def Obligations.ByteLoopIsOneMemWrite : Prop :=
  ∀ (s : State) (r : Region) (a : Nat) (bs : List Byte), (s.storage r).wf = true → a + bs.length ≤ s.cfg.size r →
    (List.range bs.length).foldlM (fun (u : State) k => u.memWrite r (a + k) [bs.getD k 0]) s = s.memWrite r a bs

/-- R12, R55, R251: after a MemWrite the read port shows the bytes written where they were written and the old bytes elsewhere, in both regions; after a preload of a region it shows the bytes given, then 0xFF, up to the region's size (bytes past it are not taken, log 12), the other region's old bytes, and a preload changes no other field and keeps the invariant. -/
def Obligations.StoreReadAfterMemWrite : Prop :=
  (∀ (s t : State) (r : Region) (a : Nat) (bs : List Byte), s.memWrite r a bs = some t →
    ∀ (q : Region) (x : Nat), t.storeRead q x =
      if q = r ∧ a ≤ x ∧ x < a + bs.length then bs[x - a]? else s.storeRead q x) ∧
  (∀ (s : State) (r : Region) (bs : List Byte),
    (∀ x, (s.preload r bs).storeRead r x = if x < s.cfg.size r then some (bs.getD x 0xFF) else none) ∧
    (∀ q x, q ≠ r → (s.preload r bs).storeRead q x = s.storeRead q x) ∧
    (s.preload r bs).setStorage r (s.storage r) = s ∧
    (s.Inv = true → (s.preload r bs).Inv = true))

/-! The UART (44_uart.md) -/

/-- R190: an unmapped UART access is logged; a read returns 0, a write is ignored; no state of the block changes. -/
def Obligations.UnmappedUartAccessIgnored : Prop :=
  ∀ (sz : Width) (off : Offset) (data : Word) (s : State),
    exec (.uartUnmappedRd sz off data) s =
      .next { s with
        log := s.log ++ [⟨.unmappedRead, .uart, off, sz, 0⟩], response := .rejectValue .unmappedRead sz 0, index := s.index + 1 } ∧
    exec (.uartUnmappedWr sz off data) s =
      .next { s with
        log := s.log ++ [⟨.unmappedWrite, .uart, off, sz, data⟩], response := .reject .unmappedWrite, index := s.index + 1 } ∧
    (Instr.uartUnmappedRd sz off data).txn = ⟨.uart, .rd, .upTo4 sz, off, data⟩ ∧
    (Instr.uartUnmappedWr sz off data).txn = ⟨.uart, .wr, .upTo4 sz, off, data⟩ ∧
    ∀ i ∈ [Instr.uartUnmappedRd sz off data, .uartUnmappedWr sz off data],
      (i.inRow = true ↔ off ≠ 0x00 ∧ off ≠ 0x14 ∧ off ≠ 0x18)

/-- R191: a read of UART_STATUS returns `TXS` in bit 2 and `RXR` in bit 1, at every width, and clears nothing. -/
def Obligations.UartStatusReadShowsFlags : Prop :=
  ∀ (sz : Width) (data : Word) (s : State),
    (Instr.uartStatusRd sz data).txn = ⟨.uart, .rd, .upTo4 sz, 0x00, data⟩ ∧
    exec (.uartStatusRd sz data) s = .next { s with
      response := .value sz ((if s.txs then 0x4 else 0) + (if s.rxr then 0x2 else 0)), index := s.index + 1 }

/-- R192: a write of UART_STATUS with bit 2 clear clears `TXS`; with bit 2 set it leaves it; nothing else changes. -/
def Obligations.UartStatusWriteCancelsTransmit : Prop :=
  ∀ (sz : Width) (data : Word) (s : State),
    (Instr.uartStatusWr sz data).txn = ⟨.uart, .wr, .upTo4 sz, 0x00, data⟩ ∧
    exec (.uartStatusWr sz data) s =
      .next { s with txs := s.txs && data[2], response := .done, index := s.index + 1 }

/-- R194: a read of UART_RXDATA returns the last byte received, new or not, and clears `RXR`. -/
def Obligations.RxDataReadTakesByte : Prop :=
  ∀ (sz : Width) (data : Word) (s : State),
    (Instr.uartRxdataRd sz data).txn = ⟨.uart, .rd, .upTo4 sz, 0x14, data⟩ ∧
    exec (.uartRxdataRd sz data) s = .next { s with
      rxr := false, response := .value sz (BitVec.ofNat 32 s.rxByte.toNat), index := s.index + 1 }

/-- R195: a write of UART_RXDATA and a read of UART_TXDATA are logged and change no state of the block. -/
def Obligations.UartWrongDirectionIgnored : Prop :=
  ∀ (sz : Width) (data : Word) (s : State),
    (Instr.uartRxdataWr sz data).txn = ⟨.uart, .wr, .upTo4 sz, 0x14, data⟩ ∧
    exec (.uartRxdataWr sz data) s = .next { s with
      log := s.log ++ [⟨.unmappedWrite, .uart, 0x14, sz, data⟩], response := .reject .unmappedWrite, index := s.index + 1 } ∧
    (Instr.uartTxdataRd sz data).txn = ⟨.uart, .rd, .upTo4 sz, 0x18, data⟩ ∧
    exec (.uartTxdataRd sz data) s = .next { s with
      log := s.log ++ [⟨.unmappedRead, .uart, 0x18, sz, 0⟩], response := .rejectValue .unmappedRead sz 0, index := s.index + 1 }

/-- R196: while the TX channel accepts, a write of UART_TXDATA hands over `data[7:0]` and ends with `TXS = 1`; nothing else changes. -/
def Obligations.TransmitHandsOverByte : Prop :=
  ∀ (sz : Width) (data : Word) (s : State), s.txReady = true →
    (Instr.uartTxdataWr sz data).txn = ⟨.uart, .wr, .upTo4 sz, 0x18, data⟩ ∧
    exec (.uartTxdataWr sz data) s = .next { s with
      txs := true, txOut := s.txOut ++ [BitVec.ofNat 8 data.toNat], response := .done, index := s.index + 1 }

/-- R64, R197: while the TX channel does not accept, the transmit holds: the guest does not advance and no state of the block changes; while it holds, only the guest and the TX channel move; and the channel's readiness changes by the channel's own move alone, which changes nothing else. How the model holds the moves, the readiness and the wait is its own (log 2, log 5, log 6, log 8). -/
def Obligations.TransmitHoldsUntilAccepted : Prop :=
  (∀ (sz : Width) (data : Word) (s : State), s.txReady = false →
    exec (.uartTxdataWr sz data) s = .next { s with response := .hold }) ∧
  (∀ (s : State) (m : Move) (rest : List Move), s.response = .hold → s.moves m rest →
    m = .guest ∨ ∃ ready, m = .txReady ready) ∧
  (∀ (s : State) (ready : Bool) (rest : List Move), s.moves (.txReady ready) rest →
    step s = .next { s with schedule := rest, txReady := ready }) ∧
  (∀ s t : State, step s = .next t → t.txReady ≠ s.txReady → ∃ rest, s.moves (.txReady t.txReady) rest)

/-- R198: when the RX channel moves, its byte is stored and `RXR` set; it moves only while `RXR` is clear; a delivery that comes first in the schedule is taken then. -/
def Obligations.RxDeliveryStoresByte : Prop :=
  (∀ (s : State) (b : Byte) (rest : List Move), s.moves (.rxDeliver b) rest →
    s.rxr = false ∧ step s = .next { s with schedule := rest, rxByte := b, rxr := true }) ∧
  (∀ (s : State) (b : Byte) (rest : List Move), s.refusalMark = false → s.rxr = false → s.response ≠ .hold →
    s.schedule = .rxDeliver b :: rest → s.moves (.rxDeliver b) rest)

/-- R199: while `RXR` is set, no step but RESET changes the received byte, and none takes a byte from the RX channel. -/
def Obligations.UnreadByteNeverOverwritten : Prop :=
  ∀ s t : State, s.rxr = true → step s = .next t →
    deliveries t.schedule = deliveries s.schedule ∧
      (t.rxByte = s.rxByte ∨ ∃ rest, s.moves .reset rest)

/-- The UART and the controller are independent (44_uart.md): a transaction of another window neither reads nor writes UART state, and one of the UART window neither reads nor writes controller state. -/
def Obligations.UartAndControllerIndependent : Prop :=
  (∀ (i : Instr) (s : State) (b : Byte) (rxr txs ready : Bool) (out : List Byte), i.txn.win ≠ .uart →
    exec i { s with rxByte := b, rxr := rxr, txs := txs, txReady := ready, txOut := out } =
      mapNext (fun t => { t with rxByte := b, rxr := rxr, txs := txs, txReady := ready, txOut := out }) (exec i s)) ∧
  (∀ (i : Instr) (s : State) (kr kp kg e : Bool) (pb : Vector Byte 512) (sr : Option Region) (sa : Word) (mc mp : Memory),
    i.txn.win = .uart →
    exec i { s with keyRegion := kr, keyParam := kp, keyGlobal := kg, eint := e, pagebuf := pb, stgRegion := sr,
                    stgAddr := sa, storageCode := mc, storageParam := mp } =
      mapNext (fun t => { t with keyRegion := kr, keyParam := kp, keyGlobal := kg, eint := e, pagebuf := pb,
                                 stgRegion := sr, stgAddr := sa, storageCode := mc, storageParam := mp }) (exec i s))

/-! The log, idempotency, byte order (60_exceptions.md, 20_memory.md) -/

/-- R220: no rule reads the diagnostic log: with any other events before, a step does the same and appends the same. -/
def Obligations.LogIsNeverRead : Prop :=
  ∀ (s : State) (l : List Event),
    step { s with log := l ++ s.log } = mapNext (fun t => { t with log := l ++ t.log }) (step s)

/-- R13, R220: a rejected transaction appends one event, which names its window, offset, width and data (0 for a read), and changes no architectural state; a rejected read returns 0; every other transaction leaves the log alone. -/
def Obligations.RejectLogsOneEvent : Prop :=
  ∀ (i : Instr) (s t : State), exec i s = .next t →
    (∀ r, t.response = .reject r → t.arch = s.arch ∧ i.txn.dir = .wr ∧
      ∃ sz, i.txn.sz = .upTo4 sz ∧ t.log = s.log ++ [⟨r, i.txn.win, i.txn.off, sz, i.txn.data⟩]) ∧
    (∀ r sz v, t.response = .rejectValue r sz v → t.arch = s.arch ∧ i.txn.dir = .rd ∧ v = 0 ∧ r = .unmappedRead ∧
      i.txn.sz = .upTo4 sz ∧ t.log = s.log ++ [⟨r, i.txn.win, i.txn.off, sz, 0⟩]) ∧
    ((∀ r, t.response ≠ .reject r ∧ ∀ sz v, t.response ≠ .rejectValue r sz v) → t.log = s.log)

/-- R57: every read but UART_RXDATA's leaves the architectural state, and every write but UART_TXDATA's, repeated at once, leaves it as the first left it. -/
def Obligations.AccessesAreIdempotent : Prop :=
  ∀ (i : Instr) (s t : State), exec i s = .next t →
    (i.txn.dir = .rd → (∀ sz d, i ≠ .uartRxdataRd sz d) → t.arch = s.arch) ∧
    (i.txn.dir = .wr → (∀ sz d, i ≠ .uartTxdataWr sz d) → ∃ u, exec i t = .next u ∧ u.arch = t.arch)

/-- R52: the bytes a read returns are its value's, the most significant at the lowest address; the bus composes the 1, 2 or 4 bytes of a write the same way, zero-extended to 32 bits; and writing back the bytes a read returned writes its value. -/
def Obligations.BytesAreBigEndian : Prop :=
  (∀ (sz : Width) (v : Word), v.toNat < 2 ^ (8 * widthBytes sz) →
    ∀ resp, resp = .value sz v ∨ (∃ reason, resp = .rejectValue reason sz v) →
      (responseBytes resp).length = widthBytes sz ∧
      (∀ k < widthBytes sz,
        ((responseBytes resp).getD k 0).toNat = v.toNat / 2 ^ (8 * (widthBytes sz - 1 - k)) % 256) ∧
      composeBytes (responseBytes resp) = v ∧
      ∀ (win : Window) (off : Offset), writeTxn win off (responseBytes resp) = some ⟨win, .wr, .upTo4 sz, off, v⟩) ∧
  (∀ (win : Window) (off : Offset) (b0 b1 b2 b3 : Byte),
    writeTxn win off [b0] = some ⟨win, .wr, .upTo4 .w1, off, b0.setWidth 32⟩ ∧
    writeTxn win off [b0, b1] = some ⟨win, .wr, .upTo4 .w2, off, (b0 ++ b1).setWidth 32⟩ ∧
    writeTxn win off [b0, b1, b2, b3] = some ⟨win, .wr, .upTo4 .w4, off, b0 ++ b1 ++ b2 ++ b3⟩)

/-! Reset, persistence and the invariant (70_reset_and_hazards.md, 10_state.md) -/

/-- R33, R250: a block just created is locked with no event pending and every storage byte 0xFF; its refusal mark is clear and its log empty. -/
def Obligations.CreatedBlockIsLockedAndErased : Prop :=
  (∀ (c : Config) (r : Region) (x : Nat), x < c.size r → (State.created c).storeRead r x = some 0xFF) ∧
  (∀ c : Config, (State.created c).unlockMask = 0 ∧ (State.created c).eint = false ∧
    (State.created c).refusalMark = false ∧ (State.created c).log = []) ∧
  State.reset.cfg.codeSize = 0x49000 ∧ State.reset.cfg.paramSize = 512

/-- R252: RESET clears the keys and `eint`, leaves storage, the refusal mark, the log and the agents, and leaves the page buffer, the staging pointer and the UART at whatever values. -/
def Obligations.ResetClearsKeysAndEint : Prop :=
  ∀ (s : State) (rest : List Move), s.moves .reset rest →
    ∃ (pb : Vector Byte 512) (sr : Option Region) (sa : Word) (b : Byte) (rxr txs : Bool),
      step s = .next { s with
        schedule := rest, keyRegion := false, keyParam := false, keyGlobal := false, eint := false, pagebuf := pb,
        stgRegion := sr, stgAddr := sa, rxByte := b, rxr := rxr, txs := txs, draws := s.draws + 1 }

/-- R258: a restore puts back exactly the persisted fields; of the others only the page buffer, the staging pointer and the draw counter may change. -/
def Obligations.RestorePutsBackSnapshot : Prop :=
  ∀ (s : State) (p : Snapshot), (s.restore p).save = p ∧
    ∃ (pb : Vector Byte 512) (sr : Option Region) (sa : Word) (n : Nat), s.restore p =
      { s with eint := p.eint, keyRegion := p.keyRegion, keyParam := p.keyParam, keyGlobal := p.keyGlobal,
               rxByte := p.rxByte, rxr := p.rxr, txs := p.txs, storageCode := p.storageCode,
               storageParam := p.storageParam, pagebuf := pb, stgRegion := sr, stgAddr := sa, draws := n }

/-- The machine's invariant holds at reset. -/
def Obligations.InvariantHoldsAtReset : Prop := State.reset.Inv = true

/-- Every step keeps the machine's invariant: the configuration stays legal, both storage arrays stay canonical and inside their regions, and the transaction index stays in the program. -/
def Obligations.StepKeepsInvariant : Prop := ∀ s t : State, s.Inv = true → step s = .next t → t.Inv = true

/-- R12, R175, R232: under the invariant no MemWrite is ever out of bounds, and the machine goes on from every state whose refusal mark is clear. That it goes on where a transmit holds (log 8) and where the guest has no transaction left (log 9) is the model's own, read by inference: R13 says of `hold` that no step is enabled yet, and the model's step there changes nothing of the block. -/
def Obligations.NoStepFaults : Prop := ∀ s : State, s.Inv = true → s.refusalMark = false → s.goesOn
end

