-- ==== Sys2Proof/Laws/State.lean ====
section
/-! SUPPORT. One lemma per field per update of the state: what each shared operation leaves in each field. -/

namespace Sys2Proof.Machine

@[simp] theorem State.respond_cfg (s : State) (r : Response) : (s.respond r).cfg = s.cfg := rfl
@[simp] theorem State.respond_keyRegion (s : State) (r : Response) : (s.respond r).keyRegion = s.keyRegion := rfl
@[simp] theorem State.respond_keyParam (s : State) (r : Response) : (s.respond r).keyParam = s.keyParam := rfl
@[simp] theorem State.respond_keyGlobal (s : State) (r : Response) : (s.respond r).keyGlobal = s.keyGlobal := rfl
@[simp] theorem State.respond_eint (s : State) (r : Response) : (s.respond r).eint = s.eint := rfl
@[simp] theorem State.respond_pagebuf (s : State) (r : Response) : (s.respond r).pagebuf = s.pagebuf := rfl
@[simp] theorem State.respond_stgRegion (s : State) (r : Response) : (s.respond r).stgRegion = s.stgRegion := rfl
@[simp] theorem State.respond_stgAddr (s : State) (r : Response) : (s.respond r).stgAddr = s.stgAddr := rfl
@[simp] theorem State.respond_storageCode (s : State) (r : Response) : (s.respond r).storageCode = s.storageCode := rfl
@[simp] theorem State.respond_storageParam (s : State) (r : Response) : (s.respond r).storageParam = s.storageParam := rfl
@[simp] theorem State.respond_rxByte (s : State) (r : Response) : (s.respond r).rxByte = s.rxByte := rfl
@[simp] theorem State.respond_rxr (s : State) (r : Response) : (s.respond r).rxr = s.rxr := rfl
@[simp] theorem State.respond_txs (s : State) (r : Response) : (s.respond r).txs = s.txs := rfl
@[simp] theorem State.respond_txReady (s : State) (r : Response) : (s.respond r).txReady = s.txReady := rfl
@[simp] theorem State.respond_txOut (s : State) (r : Response) : (s.respond r).txOut = s.txOut := rfl
@[simp] theorem State.respond_schedule (s : State) (r : Response) : (s.respond r).schedule = s.schedule := rfl
@[simp] theorem State.respond_program (s : State) (r : Response) : (s.respond r).program = s.program := rfl
@[simp] theorem State.respond_index (s : State) (r : Response) : (s.respond r).index = s.index + 1 := rfl
@[simp] theorem State.respond_refusalMark (s : State) (r : Response) : (s.respond r).refusalMark = s.refusalMark := rfl
@[simp] theorem State.respond_log (s : State) (r : Response) : (s.respond r).log = s.log := rfl
@[simp] theorem State.respond_response (s : State) (r : Response) : (s.respond r).response = r := rfl
@[simp] theorem State.respond_draws (s : State) (r : Response) : (s.respond r).draws = s.draws := rfl

@[simp] theorem State.emit_cfg (s : State) (e : Event) : (s.emit e).cfg = s.cfg := rfl
@[simp] theorem State.emit_keyRegion (s : State) (e : Event) : (s.emit e).keyRegion = s.keyRegion := rfl
@[simp] theorem State.emit_keyParam (s : State) (e : Event) : (s.emit e).keyParam = s.keyParam := rfl
@[simp] theorem State.emit_keyGlobal (s : State) (e : Event) : (s.emit e).keyGlobal = s.keyGlobal := rfl
@[simp] theorem State.emit_eint (s : State) (e : Event) : (s.emit e).eint = s.eint := rfl
@[simp] theorem State.emit_pagebuf (s : State) (e : Event) : (s.emit e).pagebuf = s.pagebuf := rfl
@[simp] theorem State.emit_stgRegion (s : State) (e : Event) : (s.emit e).stgRegion = s.stgRegion := rfl
@[simp] theorem State.emit_stgAddr (s : State) (e : Event) : (s.emit e).stgAddr = s.stgAddr := rfl
@[simp] theorem State.emit_storageCode (s : State) (e : Event) : (s.emit e).storageCode = s.storageCode := rfl
@[simp] theorem State.emit_storageParam (s : State) (e : Event) : (s.emit e).storageParam = s.storageParam := rfl
@[simp] theorem State.emit_rxByte (s : State) (e : Event) : (s.emit e).rxByte = s.rxByte := rfl
@[simp] theorem State.emit_rxr (s : State) (e : Event) : (s.emit e).rxr = s.rxr := rfl
@[simp] theorem State.emit_txs (s : State) (e : Event) : (s.emit e).txs = s.txs := rfl
@[simp] theorem State.emit_txReady (s : State) (e : Event) : (s.emit e).txReady = s.txReady := rfl
@[simp] theorem State.emit_txOut (s : State) (e : Event) : (s.emit e).txOut = s.txOut := rfl
@[simp] theorem State.emit_schedule (s : State) (e : Event) : (s.emit e).schedule = s.schedule := rfl
@[simp] theorem State.emit_program (s : State) (e : Event) : (s.emit e).program = s.program := rfl
@[simp] theorem State.emit_index (s : State) (e : Event) : (s.emit e).index = s.index := rfl
@[simp] theorem State.emit_refusalMark (s : State) (e : Event) : (s.emit e).refusalMark = s.refusalMark := rfl
@[simp] theorem State.emit_log (s : State) (e : Event) : (s.emit e).log = s.log ++ [e] := rfl
@[simp] theorem State.emit_response (s : State) (e : Event) : (s.emit e).response = s.response := rfl
@[simp] theorem State.emit_draws (s : State) (e : Event) : (s.emit e).draws = s.draws := rfl

@[simp] theorem State.rejected_cfg (s : State) (reason : Reason) (win : Window) (off : Offset) (sz : Width) (data : Word) : (s.rejected reason win off sz data).cfg = s.cfg := rfl
@[simp] theorem State.rejected_keyRegion (s : State) (reason : Reason) (win : Window) (off : Offset) (sz : Width) (data : Word) : (s.rejected reason win off sz data).keyRegion = s.keyRegion := rfl
@[simp] theorem State.rejected_keyParam (s : State) (reason : Reason) (win : Window) (off : Offset) (sz : Width) (data : Word) : (s.rejected reason win off sz data).keyParam = s.keyParam := rfl
@[simp] theorem State.rejected_keyGlobal (s : State) (reason : Reason) (win : Window) (off : Offset) (sz : Width) (data : Word) : (s.rejected reason win off sz data).keyGlobal = s.keyGlobal := rfl
@[simp] theorem State.rejected_eint (s : State) (reason : Reason) (win : Window) (off : Offset) (sz : Width) (data : Word) : (s.rejected reason win off sz data).eint = s.eint := rfl
@[simp] theorem State.rejected_pagebuf (s : State) (reason : Reason) (win : Window) (off : Offset) (sz : Width) (data : Word) : (s.rejected reason win off sz data).pagebuf = s.pagebuf := rfl
@[simp] theorem State.rejected_stgRegion (s : State) (reason : Reason) (win : Window) (off : Offset) (sz : Width) (data : Word) : (s.rejected reason win off sz data).stgRegion = s.stgRegion := rfl
@[simp] theorem State.rejected_stgAddr (s : State) (reason : Reason) (win : Window) (off : Offset) (sz : Width) (data : Word) : (s.rejected reason win off sz data).stgAddr = s.stgAddr := rfl
@[simp] theorem State.rejected_storageCode (s : State) (reason : Reason) (win : Window) (off : Offset) (sz : Width) (data : Word) : (s.rejected reason win off sz data).storageCode = s.storageCode := rfl
@[simp] theorem State.rejected_storageParam (s : State) (reason : Reason) (win : Window) (off : Offset) (sz : Width) (data : Word) : (s.rejected reason win off sz data).storageParam = s.storageParam := rfl
@[simp] theorem State.rejected_rxByte (s : State) (reason : Reason) (win : Window) (off : Offset) (sz : Width) (data : Word) : (s.rejected reason win off sz data).rxByte = s.rxByte := rfl
@[simp] theorem State.rejected_rxr (s : State) (reason : Reason) (win : Window) (off : Offset) (sz : Width) (data : Word) : (s.rejected reason win off sz data).rxr = s.rxr := rfl
@[simp] theorem State.rejected_txs (s : State) (reason : Reason) (win : Window) (off : Offset) (sz : Width) (data : Word) : (s.rejected reason win off sz data).txs = s.txs := rfl
@[simp] theorem State.rejected_txReady (s : State) (reason : Reason) (win : Window) (off : Offset) (sz : Width) (data : Word) : (s.rejected reason win off sz data).txReady = s.txReady := rfl
@[simp] theorem State.rejected_txOut (s : State) (reason : Reason) (win : Window) (off : Offset) (sz : Width) (data : Word) : (s.rejected reason win off sz data).txOut = s.txOut := rfl
@[simp] theorem State.rejected_schedule (s : State) (reason : Reason) (win : Window) (off : Offset) (sz : Width) (data : Word) : (s.rejected reason win off sz data).schedule = s.schedule := rfl
@[simp] theorem State.rejected_program (s : State) (reason : Reason) (win : Window) (off : Offset) (sz : Width) (data : Word) : (s.rejected reason win off sz data).program = s.program := rfl
@[simp] theorem State.rejected_index (s : State) (reason : Reason) (win : Window) (off : Offset) (sz : Width) (data : Word) : (s.rejected reason win off sz data).index = s.index + 1 := rfl
@[simp] theorem State.rejected_refusalMark (s : State) (reason : Reason) (win : Window) (off : Offset) (sz : Width) (data : Word) : (s.rejected reason win off sz data).refusalMark = s.refusalMark := rfl
@[simp] theorem State.rejected_log (s : State) (reason : Reason) (win : Window) (off : Offset) (sz : Width) (data : Word) : (s.rejected reason win off sz data).log = s.log ++ [⟨reason, win, off, sz, data⟩] := rfl
@[simp] theorem State.rejected_response (s : State) (reason : Reason) (win : Window) (off : Offset) (sz : Width) (data : Word) : (s.rejected reason win off sz data).response = .reject reason := rfl
@[simp] theorem State.rejected_draws (s : State) (reason : Reason) (win : Window) (off : Offset) (sz : Width) (data : Word) : (s.rejected reason win off sz data).draws = s.draws := rfl

@[simp] theorem State.rejectedRead_cfg (s : State) (win : Window) (off : Offset) (sz : Width) : (s.rejectedRead win off sz).cfg = s.cfg := rfl
@[simp] theorem State.rejectedRead_keyRegion (s : State) (win : Window) (off : Offset) (sz : Width) : (s.rejectedRead win off sz).keyRegion = s.keyRegion := rfl
@[simp] theorem State.rejectedRead_keyParam (s : State) (win : Window) (off : Offset) (sz : Width) : (s.rejectedRead win off sz).keyParam = s.keyParam := rfl
@[simp] theorem State.rejectedRead_keyGlobal (s : State) (win : Window) (off : Offset) (sz : Width) : (s.rejectedRead win off sz).keyGlobal = s.keyGlobal := rfl
@[simp] theorem State.rejectedRead_eint (s : State) (win : Window) (off : Offset) (sz : Width) : (s.rejectedRead win off sz).eint = s.eint := rfl
@[simp] theorem State.rejectedRead_pagebuf (s : State) (win : Window) (off : Offset) (sz : Width) : (s.rejectedRead win off sz).pagebuf = s.pagebuf := rfl
@[simp] theorem State.rejectedRead_stgRegion (s : State) (win : Window) (off : Offset) (sz : Width) : (s.rejectedRead win off sz).stgRegion = s.stgRegion := rfl
@[simp] theorem State.rejectedRead_stgAddr (s : State) (win : Window) (off : Offset) (sz : Width) : (s.rejectedRead win off sz).stgAddr = s.stgAddr := rfl
@[simp] theorem State.rejectedRead_storageCode (s : State) (win : Window) (off : Offset) (sz : Width) : (s.rejectedRead win off sz).storageCode = s.storageCode := rfl
@[simp] theorem State.rejectedRead_storageParam (s : State) (win : Window) (off : Offset) (sz : Width) : (s.rejectedRead win off sz).storageParam = s.storageParam := rfl
@[simp] theorem State.rejectedRead_rxByte (s : State) (win : Window) (off : Offset) (sz : Width) : (s.rejectedRead win off sz).rxByte = s.rxByte := rfl
@[simp] theorem State.rejectedRead_rxr (s : State) (win : Window) (off : Offset) (sz : Width) : (s.rejectedRead win off sz).rxr = s.rxr := rfl
@[simp] theorem State.rejectedRead_txs (s : State) (win : Window) (off : Offset) (sz : Width) : (s.rejectedRead win off sz).txs = s.txs := rfl
@[simp] theorem State.rejectedRead_txReady (s : State) (win : Window) (off : Offset) (sz : Width) : (s.rejectedRead win off sz).txReady = s.txReady := rfl
@[simp] theorem State.rejectedRead_txOut (s : State) (win : Window) (off : Offset) (sz : Width) : (s.rejectedRead win off sz).txOut = s.txOut := rfl
@[simp] theorem State.rejectedRead_schedule (s : State) (win : Window) (off : Offset) (sz : Width) : (s.rejectedRead win off sz).schedule = s.schedule := rfl
@[simp] theorem State.rejectedRead_program (s : State) (win : Window) (off : Offset) (sz : Width) : (s.rejectedRead win off sz).program = s.program := rfl
@[simp] theorem State.rejectedRead_index (s : State) (win : Window) (off : Offset) (sz : Width) : (s.rejectedRead win off sz).index = s.index + 1 := rfl
@[simp] theorem State.rejectedRead_refusalMark (s : State) (win : Window) (off : Offset) (sz : Width) : (s.rejectedRead win off sz).refusalMark = s.refusalMark := rfl
@[simp] theorem State.rejectedRead_log (s : State) (win : Window) (off : Offset) (sz : Width) : (s.rejectedRead win off sz).log = s.log ++ [⟨.unmappedRead, win, off, sz, 0⟩] := rfl
@[simp] theorem State.rejectedRead_response (s : State) (win : Window) (off : Offset) (sz : Width) : (s.rejectedRead win off sz).response = .rejectValue .unmappedRead sz 0 := rfl
@[simp] theorem State.rejectedRead_draws (s : State) (win : Window) (off : Offset) (sz : Width) : (s.rejectedRead win off sz).draws = s.draws := rfl

@[simp] theorem State.readDone_cfg (s : State) (sz : Width) (value : Word) : (s.readDone sz value).cfg = s.cfg := rfl
@[simp] theorem State.readDone_keyRegion (s : State) (sz : Width) (value : Word) : (s.readDone sz value).keyRegion = s.keyRegion := rfl
@[simp] theorem State.readDone_keyParam (s : State) (sz : Width) (value : Word) : (s.readDone sz value).keyParam = s.keyParam := rfl
@[simp] theorem State.readDone_keyGlobal (s : State) (sz : Width) (value : Word) : (s.readDone sz value).keyGlobal = s.keyGlobal := rfl
@[simp] theorem State.readDone_eint (s : State) (sz : Width) (value : Word) : (s.readDone sz value).eint = s.eint := rfl
@[simp] theorem State.readDone_pagebuf (s : State) (sz : Width) (value : Word) : (s.readDone sz value).pagebuf = s.pagebuf := rfl
@[simp] theorem State.readDone_stgRegion (s : State) (sz : Width) (value : Word) : (s.readDone sz value).stgRegion = s.stgRegion := rfl
@[simp] theorem State.readDone_stgAddr (s : State) (sz : Width) (value : Word) : (s.readDone sz value).stgAddr = s.stgAddr := rfl
@[simp] theorem State.readDone_storageCode (s : State) (sz : Width) (value : Word) : (s.readDone sz value).storageCode = s.storageCode := rfl
@[simp] theorem State.readDone_storageParam (s : State) (sz : Width) (value : Word) : (s.readDone sz value).storageParam = s.storageParam := rfl
@[simp] theorem State.readDone_rxByte (s : State) (sz : Width) (value : Word) : (s.readDone sz value).rxByte = s.rxByte := rfl
@[simp] theorem State.readDone_rxr (s : State) (sz : Width) (value : Word) : (s.readDone sz value).rxr = s.rxr := rfl
@[simp] theorem State.readDone_txs (s : State) (sz : Width) (value : Word) : (s.readDone sz value).txs = s.txs := rfl
@[simp] theorem State.readDone_txReady (s : State) (sz : Width) (value : Word) : (s.readDone sz value).txReady = s.txReady := rfl
@[simp] theorem State.readDone_txOut (s : State) (sz : Width) (value : Word) : (s.readDone sz value).txOut = s.txOut := rfl
@[simp] theorem State.readDone_schedule (s : State) (sz : Width) (value : Word) : (s.readDone sz value).schedule = s.schedule := rfl
@[simp] theorem State.readDone_program (s : State) (sz : Width) (value : Word) : (s.readDone sz value).program = s.program := rfl
@[simp] theorem State.readDone_index (s : State) (sz : Width) (value : Word) : (s.readDone sz value).index = s.index + 1 := rfl
@[simp] theorem State.readDone_refusalMark (s : State) (sz : Width) (value : Word) : (s.readDone sz value).refusalMark = s.refusalMark := rfl
@[simp] theorem State.readDone_log (s : State) (sz : Width) (value : Word) : (s.readDone sz value).log = s.log := rfl
@[simp] theorem State.readDone_response (s : State) (sz : Width) (value : Word) : (s.readDone sz value).response = .value sz (truncRead sz value) := rfl
@[simp] theorem State.readDone_draws (s : State) (sz : Width) (value : Word) : (s.readDone sz value).draws = s.draws := rfl

@[simp] theorem State.refuse_cfg (s : State) (r : RefuseReason) : (s.refuse r).cfg = s.cfg := rfl
@[simp] theorem State.refuse_keyRegion (s : State) (r : RefuseReason) : (s.refuse r).keyRegion = s.keyRegion := rfl
@[simp] theorem State.refuse_keyParam (s : State) (r : RefuseReason) : (s.refuse r).keyParam = s.keyParam := rfl
@[simp] theorem State.refuse_keyGlobal (s : State) (r : RefuseReason) : (s.refuse r).keyGlobal = s.keyGlobal := rfl
@[simp] theorem State.refuse_eint (s : State) (r : RefuseReason) : (s.refuse r).eint = s.eint := rfl
@[simp] theorem State.refuse_pagebuf (s : State) (r : RefuseReason) : (s.refuse r).pagebuf = s.pagebuf := rfl
@[simp] theorem State.refuse_stgRegion (s : State) (r : RefuseReason) : (s.refuse r).stgRegion = s.stgRegion := rfl
@[simp] theorem State.refuse_stgAddr (s : State) (r : RefuseReason) : (s.refuse r).stgAddr = s.stgAddr := rfl
@[simp] theorem State.refuse_storageCode (s : State) (r : RefuseReason) : (s.refuse r).storageCode = s.storageCode := rfl
@[simp] theorem State.refuse_storageParam (s : State) (r : RefuseReason) : (s.refuse r).storageParam = s.storageParam := rfl
@[simp] theorem State.refuse_rxByte (s : State) (r : RefuseReason) : (s.refuse r).rxByte = s.rxByte := rfl
@[simp] theorem State.refuse_rxr (s : State) (r : RefuseReason) : (s.refuse r).rxr = s.rxr := rfl
@[simp] theorem State.refuse_txs (s : State) (r : RefuseReason) : (s.refuse r).txs = s.txs := rfl
@[simp] theorem State.refuse_txReady (s : State) (r : RefuseReason) : (s.refuse r).txReady = s.txReady := rfl
@[simp] theorem State.refuse_txOut (s : State) (r : RefuseReason) : (s.refuse r).txOut = s.txOut := rfl
@[simp] theorem State.refuse_schedule (s : State) (r : RefuseReason) : (s.refuse r).schedule = s.schedule := rfl
@[simp] theorem State.refuse_program (s : State) (r : RefuseReason) : (s.refuse r).program = s.program := rfl
@[simp] theorem State.refuse_index (s : State) (r : RefuseReason) : (s.refuse r).index = s.index := rfl
@[simp] theorem State.refuse_refusalMark (s : State) (r : RefuseReason) : (s.refuse r).refusalMark = true := rfl
@[simp] theorem State.refuse_log (s : State) (r : RefuseReason) : (s.refuse r).log = s.log := rfl
@[simp] theorem State.refuse_response (s : State) (r : RefuseReason) : (s.refuse r).response = .refuse r := rfl
@[simp] theorem State.refuse_draws (s : State) (r : RefuseReason) : (s.refuse r).draws = s.draws := rfl

@[simp] theorem State.held_cfg (s : State) : (s.held).cfg = s.cfg := rfl
@[simp] theorem State.held_keyRegion (s : State) : (s.held).keyRegion = s.keyRegion := rfl
@[simp] theorem State.held_keyParam (s : State) : (s.held).keyParam = s.keyParam := rfl
@[simp] theorem State.held_keyGlobal (s : State) : (s.held).keyGlobal = s.keyGlobal := rfl
@[simp] theorem State.held_eint (s : State) : (s.held).eint = s.eint := rfl
@[simp] theorem State.held_pagebuf (s : State) : (s.held).pagebuf = s.pagebuf := rfl
@[simp] theorem State.held_stgRegion (s : State) : (s.held).stgRegion = s.stgRegion := rfl
@[simp] theorem State.held_stgAddr (s : State) : (s.held).stgAddr = s.stgAddr := rfl
@[simp] theorem State.held_storageCode (s : State) : (s.held).storageCode = s.storageCode := rfl
@[simp] theorem State.held_storageParam (s : State) : (s.held).storageParam = s.storageParam := rfl
@[simp] theorem State.held_rxByte (s : State) : (s.held).rxByte = s.rxByte := rfl
@[simp] theorem State.held_rxr (s : State) : (s.held).rxr = s.rxr := rfl
@[simp] theorem State.held_txs (s : State) : (s.held).txs = s.txs := rfl
@[simp] theorem State.held_txReady (s : State) : (s.held).txReady = s.txReady := rfl
@[simp] theorem State.held_txOut (s : State) : (s.held).txOut = s.txOut := rfl
@[simp] theorem State.held_schedule (s : State) : (s.held).schedule = s.schedule := rfl
@[simp] theorem State.held_program (s : State) : (s.held).program = s.program := rfl
@[simp] theorem State.held_index (s : State) : (s.held).index = s.index := rfl
@[simp] theorem State.held_refusalMark (s : State) : (s.held).refusalMark = s.refusalMark := rfl
@[simp] theorem State.held_log (s : State) : (s.held).log = s.log := rfl
@[simp] theorem State.held_response (s : State) : (s.held).response = .hold := rfl
@[simp] theorem State.held_draws (s : State) : (s.held).draws = s.draws := rfl

@[simp] theorem State.opDone_cfg (s : State) : (s.opDone).cfg = s.cfg := rfl
@[simp] theorem State.opDone_keyRegion (s : State) : (s.opDone).keyRegion = s.keyRegion := rfl
@[simp] theorem State.opDone_keyParam (s : State) : (s.opDone).keyParam = s.keyParam := rfl
@[simp] theorem State.opDone_keyGlobal (s : State) : (s.opDone).keyGlobal = s.keyGlobal := rfl
@[simp] theorem State.opDone_eint (s : State) : (s.opDone).eint = true := rfl
@[simp] theorem State.opDone_pagebuf (s : State) : (s.opDone).pagebuf = s.pagebuf := rfl
@[simp] theorem State.opDone_stgRegion (s : State) : (s.opDone).stgRegion = s.stgRegion := rfl
@[simp] theorem State.opDone_stgAddr (s : State) : (s.opDone).stgAddr = s.stgAddr := rfl
@[simp] theorem State.opDone_storageCode (s : State) : (s.opDone).storageCode = s.storageCode := rfl
@[simp] theorem State.opDone_storageParam (s : State) : (s.opDone).storageParam = s.storageParam := rfl
@[simp] theorem State.opDone_rxByte (s : State) : (s.opDone).rxByte = s.rxByte := rfl
@[simp] theorem State.opDone_rxr (s : State) : (s.opDone).rxr = s.rxr := rfl
@[simp] theorem State.opDone_txs (s : State) : (s.opDone).txs = s.txs := rfl
@[simp] theorem State.opDone_txReady (s : State) : (s.opDone).txReady = s.txReady := rfl
@[simp] theorem State.opDone_txOut (s : State) : (s.opDone).txOut = s.txOut := rfl
@[simp] theorem State.opDone_schedule (s : State) : (s.opDone).schedule = s.schedule := rfl
@[simp] theorem State.opDone_program (s : State) : (s.opDone).program = s.program := rfl
@[simp] theorem State.opDone_index (s : State) : (s.opDone).index = s.index + 1 := rfl
@[simp] theorem State.opDone_refusalMark (s : State) : (s.opDone).refusalMark = s.refusalMark := rfl
@[simp] theorem State.opDone_log (s : State) : (s.opDone).log = s.log := rfl
@[simp] theorem State.opDone_response (s : State) : (s.opDone).response = .done := rfl
@[simp] theorem State.opDone_draws (s : State) : (s.opDone).draws = s.draws := rfl

@[simp] theorem State.withSchedule_cfg (s : State) (rest : List Move) : (s.withSchedule rest).cfg = s.cfg := rfl
@[simp] theorem State.withSchedule_keyRegion (s : State) (rest : List Move) : (s.withSchedule rest).keyRegion = s.keyRegion := rfl
@[simp] theorem State.withSchedule_keyParam (s : State) (rest : List Move) : (s.withSchedule rest).keyParam = s.keyParam := rfl
@[simp] theorem State.withSchedule_keyGlobal (s : State) (rest : List Move) : (s.withSchedule rest).keyGlobal = s.keyGlobal := rfl
@[simp] theorem State.withSchedule_eint (s : State) (rest : List Move) : (s.withSchedule rest).eint = s.eint := rfl
@[simp] theorem State.withSchedule_pagebuf (s : State) (rest : List Move) : (s.withSchedule rest).pagebuf = s.pagebuf := rfl
@[simp] theorem State.withSchedule_stgRegion (s : State) (rest : List Move) : (s.withSchedule rest).stgRegion = s.stgRegion := rfl
@[simp] theorem State.withSchedule_stgAddr (s : State) (rest : List Move) : (s.withSchedule rest).stgAddr = s.stgAddr := rfl
@[simp] theorem State.withSchedule_storageCode (s : State) (rest : List Move) : (s.withSchedule rest).storageCode = s.storageCode := rfl
@[simp] theorem State.withSchedule_storageParam (s : State) (rest : List Move) : (s.withSchedule rest).storageParam = s.storageParam := rfl
@[simp] theorem State.withSchedule_rxByte (s : State) (rest : List Move) : (s.withSchedule rest).rxByte = s.rxByte := rfl
@[simp] theorem State.withSchedule_rxr (s : State) (rest : List Move) : (s.withSchedule rest).rxr = s.rxr := rfl
@[simp] theorem State.withSchedule_txs (s : State) (rest : List Move) : (s.withSchedule rest).txs = s.txs := rfl
@[simp] theorem State.withSchedule_txReady (s : State) (rest : List Move) : (s.withSchedule rest).txReady = s.txReady := rfl
@[simp] theorem State.withSchedule_txOut (s : State) (rest : List Move) : (s.withSchedule rest).txOut = s.txOut := rfl
@[simp] theorem State.withSchedule_schedule (s : State) (rest : List Move) : (s.withSchedule rest).schedule = rest := rfl
@[simp] theorem State.withSchedule_program (s : State) (rest : List Move) : (s.withSchedule rest).program = s.program := rfl
@[simp] theorem State.withSchedule_index (s : State) (rest : List Move) : (s.withSchedule rest).index = s.index := rfl
@[simp] theorem State.withSchedule_refusalMark (s : State) (rest : List Move) : (s.withSchedule rest).refusalMark = s.refusalMark := rfl
@[simp] theorem State.withSchedule_log (s : State) (rest : List Move) : (s.withSchedule rest).log = s.log := rfl
@[simp] theorem State.withSchedule_response (s : State) (rest : List Move) : (s.withSchedule rest).response = s.response := rfl
@[simp] theorem State.withSchedule_draws (s : State) (rest : List Move) : (s.withSchedule rest).draws = s.draws := rfl

@[simp] theorem State.stage_cfg (s : State) (r : Region) (off : Offset) (data : Word) : (s.stage r off data).cfg = s.cfg := rfl
@[simp] theorem State.stage_keyRegion (s : State) (r : Region) (off : Offset) (data : Word) : (s.stage r off data).keyRegion = s.keyRegion := rfl
@[simp] theorem State.stage_keyParam (s : State) (r : Region) (off : Offset) (data : Word) : (s.stage r off data).keyParam = s.keyParam := rfl
@[simp] theorem State.stage_keyGlobal (s : State) (r : Region) (off : Offset) (data : Word) : (s.stage r off data).keyGlobal = s.keyGlobal := rfl
@[simp] theorem State.stage_eint (s : State) (r : Region) (off : Offset) (data : Word) : (s.stage r off data).eint = s.eint := rfl
@[simp] theorem State.stage_pagebuf (s : State) (r : Region) (off : Offset) (data : Word) : (s.stage r off data).pagebuf = stageWord s.pagebuf (pageOffset off) data := rfl
@[simp] theorem State.stage_stgRegion (s : State) (r : Region) (off : Offset) (data : Word) : (s.stage r off data).stgRegion = some r := rfl
@[simp] theorem State.stage_stgAddr (s : State) (r : Region) (off : Offset) (data : Word) : (s.stage r off data).stgAddr = stagedAddr off := rfl
@[simp] theorem State.stage_storageCode (s : State) (r : Region) (off : Offset) (data : Word) : (s.stage r off data).storageCode = s.storageCode := rfl
@[simp] theorem State.stage_storageParam (s : State) (r : Region) (off : Offset) (data : Word) : (s.stage r off data).storageParam = s.storageParam := rfl
@[simp] theorem State.stage_rxByte (s : State) (r : Region) (off : Offset) (data : Word) : (s.stage r off data).rxByte = s.rxByte := rfl
@[simp] theorem State.stage_rxr (s : State) (r : Region) (off : Offset) (data : Word) : (s.stage r off data).rxr = s.rxr := rfl
@[simp] theorem State.stage_txs (s : State) (r : Region) (off : Offset) (data : Word) : (s.stage r off data).txs = s.txs := rfl
@[simp] theorem State.stage_txReady (s : State) (r : Region) (off : Offset) (data : Word) : (s.stage r off data).txReady = s.txReady := rfl
@[simp] theorem State.stage_txOut (s : State) (r : Region) (off : Offset) (data : Word) : (s.stage r off data).txOut = s.txOut := rfl
@[simp] theorem State.stage_schedule (s : State) (r : Region) (off : Offset) (data : Word) : (s.stage r off data).schedule = s.schedule := rfl
@[simp] theorem State.stage_program (s : State) (r : Region) (off : Offset) (data : Word) : (s.stage r off data).program = s.program := rfl
@[simp] theorem State.stage_index (s : State) (r : Region) (off : Offset) (data : Word) : (s.stage r off data).index = s.index := rfl
@[simp] theorem State.stage_refusalMark (s : State) (r : Region) (off : Offset) (data : Word) : (s.stage r off data).refusalMark = s.refusalMark := rfl
@[simp] theorem State.stage_log (s : State) (r : Region) (off : Offset) (data : Word) : (s.stage r off data).log = s.log := rfl
@[simp] theorem State.stage_response (s : State) (r : Region) (off : Offset) (data : Word) : (s.stage r off data).response = s.response := rfl
@[simp] theorem State.stage_draws (s : State) (r : Region) (off : Offset) (data : Word) : (s.stage r off data).draws = s.draws := rfl

@[simp] theorem State.setStorage_cfg (s : State) (r : Region) (m : Memory) : (s.setStorage r m).cfg = s.cfg := by cases r <;> rfl
@[simp] theorem State.setStorage_keyRegion (s : State) (r : Region) (m : Memory) : (s.setStorage r m).keyRegion = s.keyRegion := by cases r <;> rfl
@[simp] theorem State.setStorage_keyParam (s : State) (r : Region) (m : Memory) : (s.setStorage r m).keyParam = s.keyParam := by cases r <;> rfl
@[simp] theorem State.setStorage_keyGlobal (s : State) (r : Region) (m : Memory) : (s.setStorage r m).keyGlobal = s.keyGlobal := by cases r <;> rfl
@[simp] theorem State.setStorage_eint (s : State) (r : Region) (m : Memory) : (s.setStorage r m).eint = s.eint := by cases r <;> rfl
@[simp] theorem State.setStorage_pagebuf (s : State) (r : Region) (m : Memory) : (s.setStorage r m).pagebuf = s.pagebuf := by cases r <;> rfl
@[simp] theorem State.setStorage_stgRegion (s : State) (r : Region) (m : Memory) : (s.setStorage r m).stgRegion = s.stgRegion := by cases r <;> rfl
@[simp] theorem State.setStorage_stgAddr (s : State) (r : Region) (m : Memory) : (s.setStorage r m).stgAddr = s.stgAddr := by cases r <;> rfl
@[simp] theorem State.setStorage_rxByte (s : State) (r : Region) (m : Memory) : (s.setStorage r m).rxByte = s.rxByte := by cases r <;> rfl
@[simp] theorem State.setStorage_rxr (s : State) (r : Region) (m : Memory) : (s.setStorage r m).rxr = s.rxr := by cases r <;> rfl
@[simp] theorem State.setStorage_txs (s : State) (r : Region) (m : Memory) : (s.setStorage r m).txs = s.txs := by cases r <;> rfl
@[simp] theorem State.setStorage_txReady (s : State) (r : Region) (m : Memory) : (s.setStorage r m).txReady = s.txReady := by cases r <;> rfl
@[simp] theorem State.setStorage_txOut (s : State) (r : Region) (m : Memory) : (s.setStorage r m).txOut = s.txOut := by cases r <;> rfl
@[simp] theorem State.setStorage_schedule (s : State) (r : Region) (m : Memory) : (s.setStorage r m).schedule = s.schedule := by cases r <;> rfl
@[simp] theorem State.setStorage_program (s : State) (r : Region) (m : Memory) : (s.setStorage r m).program = s.program := by cases r <;> rfl
@[simp] theorem State.setStorage_index (s : State) (r : Region) (m : Memory) : (s.setStorage r m).index = s.index := by cases r <;> rfl
@[simp] theorem State.setStorage_refusalMark (s : State) (r : Region) (m : Memory) : (s.setStorage r m).refusalMark = s.refusalMark := by cases r <;> rfl
@[simp] theorem State.setStorage_log (s : State) (r : Region) (m : Memory) : (s.setStorage r m).log = s.log := by cases r <;> rfl
@[simp] theorem State.setStorage_response (s : State) (r : Region) (m : Memory) : (s.setStorage r m).response = s.response := by cases r <;> rfl
@[simp] theorem State.setStorage_draws (s : State) (r : Region) (m : Memory) : (s.setStorage r m).draws = s.draws := by cases r <;> rfl

@[simp] theorem State.ackEint_cfg (s : State) (data : Word) : (s.ackEint data).cfg = s.cfg := rfl
@[simp] theorem State.ackEint_keyRegion (s : State) (data : Word) : (s.ackEint data).keyRegion = s.keyRegion := rfl
@[simp] theorem State.ackEint_keyParam (s : State) (data : Word) : (s.ackEint data).keyParam = s.keyParam := rfl
@[simp] theorem State.ackEint_keyGlobal (s : State) (data : Word) : (s.ackEint data).keyGlobal = s.keyGlobal := rfl
@[simp] theorem State.ackEint_eint (s : State) (data : Word) : (s.ackEint data).eint = if ackBit data then s.eint else false := rfl
@[simp] theorem State.ackEint_pagebuf (s : State) (data : Word) : (s.ackEint data).pagebuf = s.pagebuf := rfl
@[simp] theorem State.ackEint_stgRegion (s : State) (data : Word) : (s.ackEint data).stgRegion = s.stgRegion := rfl
@[simp] theorem State.ackEint_stgAddr (s : State) (data : Word) : (s.ackEint data).stgAddr = s.stgAddr := rfl
@[simp] theorem State.ackEint_storageCode (s : State) (data : Word) : (s.ackEint data).storageCode = s.storageCode := rfl
@[simp] theorem State.ackEint_storageParam (s : State) (data : Word) : (s.ackEint data).storageParam = s.storageParam := rfl
@[simp] theorem State.ackEint_rxByte (s : State) (data : Word) : (s.ackEint data).rxByte = s.rxByte := rfl
@[simp] theorem State.ackEint_rxr (s : State) (data : Word) : (s.ackEint data).rxr = s.rxr := rfl
@[simp] theorem State.ackEint_txs (s : State) (data : Word) : (s.ackEint data).txs = s.txs := rfl
@[simp] theorem State.ackEint_txReady (s : State) (data : Word) : (s.ackEint data).txReady = s.txReady := rfl
@[simp] theorem State.ackEint_txOut (s : State) (data : Word) : (s.ackEint data).txOut = s.txOut := rfl
@[simp] theorem State.ackEint_schedule (s : State) (data : Word) : (s.ackEint data).schedule = s.schedule := rfl
@[simp] theorem State.ackEint_program (s : State) (data : Word) : (s.ackEint data).program = s.program := rfl
@[simp] theorem State.ackEint_index (s : State) (data : Word) : (s.ackEint data).index = s.index := rfl
@[simp] theorem State.ackEint_refusalMark (s : State) (data : Word) : (s.ackEint data).refusalMark = s.refusalMark := rfl
@[simp] theorem State.ackEint_log (s : State) (data : Word) : (s.ackEint data).log = s.log := rfl
@[simp] theorem State.ackEint_response (s : State) (data : Word) : (s.ackEint data).response = s.response := rfl
@[simp] theorem State.ackEint_draws (s : State) (data : Word) : (s.ackEint data).draws = s.draws := rfl

@[simp] theorem State.cancelTxs_cfg (s : State) (data : Word) : (s.cancelTxs data).cfg = s.cfg := rfl
@[simp] theorem State.cancelTxs_keyRegion (s : State) (data : Word) : (s.cancelTxs data).keyRegion = s.keyRegion := rfl
@[simp] theorem State.cancelTxs_keyParam (s : State) (data : Word) : (s.cancelTxs data).keyParam = s.keyParam := rfl
@[simp] theorem State.cancelTxs_keyGlobal (s : State) (data : Word) : (s.cancelTxs data).keyGlobal = s.keyGlobal := rfl
@[simp] theorem State.cancelTxs_eint (s : State) (data : Word) : (s.cancelTxs data).eint = s.eint := rfl
@[simp] theorem State.cancelTxs_pagebuf (s : State) (data : Word) : (s.cancelTxs data).pagebuf = s.pagebuf := rfl
@[simp] theorem State.cancelTxs_stgRegion (s : State) (data : Word) : (s.cancelTxs data).stgRegion = s.stgRegion := rfl
@[simp] theorem State.cancelTxs_stgAddr (s : State) (data : Word) : (s.cancelTxs data).stgAddr = s.stgAddr := rfl
@[simp] theorem State.cancelTxs_storageCode (s : State) (data : Word) : (s.cancelTxs data).storageCode = s.storageCode := rfl
@[simp] theorem State.cancelTxs_storageParam (s : State) (data : Word) : (s.cancelTxs data).storageParam = s.storageParam := rfl
@[simp] theorem State.cancelTxs_rxByte (s : State) (data : Word) : (s.cancelTxs data).rxByte = s.rxByte := rfl
@[simp] theorem State.cancelTxs_rxr (s : State) (data : Word) : (s.cancelTxs data).rxr = s.rxr := rfl
@[simp] theorem State.cancelTxs_txs (s : State) (data : Word) : (s.cancelTxs data).txs = if cancelBit data then s.txs else false := rfl
@[simp] theorem State.cancelTxs_txReady (s : State) (data : Word) : (s.cancelTxs data).txReady = s.txReady := rfl
@[simp] theorem State.cancelTxs_txOut (s : State) (data : Word) : (s.cancelTxs data).txOut = s.txOut := rfl
@[simp] theorem State.cancelTxs_schedule (s : State) (data : Word) : (s.cancelTxs data).schedule = s.schedule := rfl
@[simp] theorem State.cancelTxs_program (s : State) (data : Word) : (s.cancelTxs data).program = s.program := rfl
@[simp] theorem State.cancelTxs_index (s : State) (data : Word) : (s.cancelTxs data).index = s.index := rfl
@[simp] theorem State.cancelTxs_refusalMark (s : State) (data : Word) : (s.cancelTxs data).refusalMark = s.refusalMark := rfl
@[simp] theorem State.cancelTxs_log (s : State) (data : Word) : (s.cancelTxs data).log = s.log := rfl
@[simp] theorem State.cancelTxs_response (s : State) (data : Word) : (s.cancelTxs data).response = s.response := rfl
@[simp] theorem State.cancelTxs_draws (s : State) (data : Word) : (s.cancelTxs data).draws = s.draws := rfl

@[simp] theorem stagingRead_cfg (s : State) (sz : Width) : (stagingRead sz s).cfg = s.cfg := rfl
@[simp] theorem stagingRead_keyRegion (s : State) (sz : Width) : (stagingRead sz s).keyRegion = s.keyRegion := rfl
@[simp] theorem stagingRead_keyParam (s : State) (sz : Width) : (stagingRead sz s).keyParam = s.keyParam := rfl
@[simp] theorem stagingRead_keyGlobal (s : State) (sz : Width) : (stagingRead sz s).keyGlobal = s.keyGlobal := rfl
@[simp] theorem stagingRead_eint (s : State) (sz : Width) : (stagingRead sz s).eint = s.eint := rfl
@[simp] theorem stagingRead_pagebuf (s : State) (sz : Width) : (stagingRead sz s).pagebuf = s.pagebuf := rfl
@[simp] theorem stagingRead_stgRegion (s : State) (sz : Width) : (stagingRead sz s).stgRegion = s.stgRegion := rfl
@[simp] theorem stagingRead_stgAddr (s : State) (sz : Width) : (stagingRead sz s).stgAddr = s.stgAddr := rfl
@[simp] theorem stagingRead_storageCode (s : State) (sz : Width) : (stagingRead sz s).storageCode = s.storageCode := rfl
@[simp] theorem stagingRead_storageParam (s : State) (sz : Width) : (stagingRead sz s).storageParam = s.storageParam := rfl
@[simp] theorem stagingRead_rxByte (s : State) (sz : Width) : (stagingRead sz s).rxByte = s.rxByte := rfl
@[simp] theorem stagingRead_rxr (s : State) (sz : Width) : (stagingRead sz s).rxr = s.rxr := rfl
@[simp] theorem stagingRead_txs (s : State) (sz : Width) : (stagingRead sz s).txs = s.txs := rfl
@[simp] theorem stagingRead_txReady (s : State) (sz : Width) : (stagingRead sz s).txReady = s.txReady := rfl
@[simp] theorem stagingRead_txOut (s : State) (sz : Width) : (stagingRead sz s).txOut = s.txOut := rfl
@[simp] theorem stagingRead_schedule (s : State) (sz : Width) : (stagingRead sz s).schedule = s.schedule := rfl
@[simp] theorem stagingRead_program (s : State) (sz : Width) : (stagingRead sz s).program = s.program := rfl
@[simp] theorem stagingRead_index (s : State) (sz : Width) : (stagingRead sz s).index = s.index + 1 := rfl
@[simp] theorem stagingRead_refusalMark (s : State) (sz : Width) : (stagingRead sz s).refusalMark = s.refusalMark := rfl
@[simp] theorem stagingRead_log (s : State) (sz : Width) : (stagingRead sz s).log = s.log := rfl
@[simp] theorem stagingRead_response (s : State) (sz : Width) : (stagingRead sz s).response = .value sz (truncRead sz (Config.drawRead s.draws)) := rfl
@[simp] theorem stagingRead_draws (s : State) (sz : Width) : (stagingRead sz s).draws = s.draws + 1 := rfl

@[simp] theorem rxDeliver_cfg (s : State) (b : Byte) : (rxDeliver b s).cfg = s.cfg := rfl
@[simp] theorem rxDeliver_keyRegion (s : State) (b : Byte) : (rxDeliver b s).keyRegion = s.keyRegion := rfl
@[simp] theorem rxDeliver_keyParam (s : State) (b : Byte) : (rxDeliver b s).keyParam = s.keyParam := rfl
@[simp] theorem rxDeliver_keyGlobal (s : State) (b : Byte) : (rxDeliver b s).keyGlobal = s.keyGlobal := rfl
@[simp] theorem rxDeliver_eint (s : State) (b : Byte) : (rxDeliver b s).eint = s.eint := rfl
@[simp] theorem rxDeliver_pagebuf (s : State) (b : Byte) : (rxDeliver b s).pagebuf = s.pagebuf := rfl
@[simp] theorem rxDeliver_stgRegion (s : State) (b : Byte) : (rxDeliver b s).stgRegion = s.stgRegion := rfl
@[simp] theorem rxDeliver_stgAddr (s : State) (b : Byte) : (rxDeliver b s).stgAddr = s.stgAddr := rfl
@[simp] theorem rxDeliver_storageCode (s : State) (b : Byte) : (rxDeliver b s).storageCode = s.storageCode := rfl
@[simp] theorem rxDeliver_storageParam (s : State) (b : Byte) : (rxDeliver b s).storageParam = s.storageParam := rfl
@[simp] theorem rxDeliver_rxByte (s : State) (b : Byte) : (rxDeliver b s).rxByte = b := rfl
@[simp] theorem rxDeliver_rxr (s : State) (b : Byte) : (rxDeliver b s).rxr = true := rfl
@[simp] theorem rxDeliver_txs (s : State) (b : Byte) : (rxDeliver b s).txs = s.txs := rfl
@[simp] theorem rxDeliver_txReady (s : State) (b : Byte) : (rxDeliver b s).txReady = s.txReady := rfl
@[simp] theorem rxDeliver_txOut (s : State) (b : Byte) : (rxDeliver b s).txOut = s.txOut := rfl
@[simp] theorem rxDeliver_schedule (s : State) (b : Byte) : (rxDeliver b s).schedule = s.schedule := rfl
@[simp] theorem rxDeliver_program (s : State) (b : Byte) : (rxDeliver b s).program = s.program := rfl
@[simp] theorem rxDeliver_index (s : State) (b : Byte) : (rxDeliver b s).index = s.index := rfl
@[simp] theorem rxDeliver_refusalMark (s : State) (b : Byte) : (rxDeliver b s).refusalMark = s.refusalMark := rfl
@[simp] theorem rxDeliver_log (s : State) (b : Byte) : (rxDeliver b s).log = s.log := rfl
@[simp] theorem rxDeliver_response (s : State) (b : Byte) : (rxDeliver b s).response = s.response := rfl
@[simp] theorem rxDeliver_draws (s : State) (b : Byte) : (rxDeliver b s).draws = s.draws := rfl

@[simp] theorem resetBlock_cfg (s : State) : (resetBlock s).cfg = s.cfg := by simp only [resetBlock, State.redrawNvm]
@[simp] theorem resetBlock_keyRegion (s : State) : (resetBlock s).keyRegion = false := by simp only [resetBlock, State.redrawNvm]
@[simp] theorem resetBlock_keyParam (s : State) : (resetBlock s).keyParam = false := by simp only [resetBlock, State.redrawNvm]
@[simp] theorem resetBlock_keyGlobal (s : State) : (resetBlock s).keyGlobal = false := by simp only [resetBlock, State.redrawNvm]
@[simp] theorem resetBlock_eint (s : State) : (resetBlock s).eint = false := by simp only [resetBlock, State.redrawNvm]
@[simp] theorem resetBlock_storageCode (s : State) : (resetBlock s).storageCode = s.storageCode := by simp only [resetBlock, State.redrawNvm]
@[simp] theorem resetBlock_storageParam (s : State) : (resetBlock s).storageParam = s.storageParam := by simp only [resetBlock, State.redrawNvm]
@[simp] theorem resetBlock_txReady (s : State) : (resetBlock s).txReady = s.txReady := by simp only [resetBlock, State.redrawNvm]
@[simp] theorem resetBlock_txOut (s : State) : (resetBlock s).txOut = s.txOut := by simp only [resetBlock, State.redrawNvm]
@[simp] theorem resetBlock_schedule (s : State) : (resetBlock s).schedule = s.schedule := by simp only [resetBlock, State.redrawNvm]
@[simp] theorem resetBlock_program (s : State) : (resetBlock s).program = s.program := by simp only [resetBlock, State.redrawNvm]
@[simp] theorem resetBlock_index (s : State) : (resetBlock s).index = s.index := by simp only [resetBlock, State.redrawNvm]
@[simp] theorem resetBlock_refusalMark (s : State) : (resetBlock s).refusalMark = s.refusalMark := by simp only [resetBlock, State.redrawNvm]
@[simp] theorem resetBlock_log (s : State) : (resetBlock s).log = s.log := by simp only [resetBlock, State.redrawNvm]
@[simp] theorem resetBlock_response (s : State) : (resetBlock s).response = s.response := by simp only [resetBlock, State.redrawNvm]
@[simp] theorem resetBlock_draws (s : State) : (resetBlock s).draws = s.draws + 1 := by simp only [resetBlock, State.redrawNvm]

/-- Taking a move off the schedule does not change what the guest fetches. -/
@[simp] theorem State.withSchedule_fetch (s : State) (rest : List Move) : (s.withSchedule rest).fetch = s.fetch := rfl

/-- Replacing one region's storage gives that region the new array and leaves the other's alone. -/
@[simp] theorem State.setStorage_storage (s : State) (r q : Region) (m : Memory) :
    (s.setStorage r m).storage q = if q = r then m else s.storage q := by
  cases r <;> cases q <;> rfl

/-- Putting back a region's own storage changes nothing. -/
@[simp] theorem State.setStorage_self (s : State) (r : Region) : s.setStorage r (s.storage r) = s := by
  cases r <;> rfl

end Sys2Proof.Machine
end

