-- ==== Sys2Proof/Laws/Memory.lean ====
section
/-! SUPPORT. The storage laws: reading after a write, the canonical form and the bound that every write keeps, and that canonical memories which read alike are equal. -/

namespace Sys2Proof.Machine

@[simp] theorem Memory.get_nil (a : Nat) : Memory.get [] a = erased := rfl

theorem Memory.get_cons (k : Nat) (b : Byte) (m : Memory) (a : Nat) :
    Memory.get ((k, b) :: m) a = if k = a then b else Memory.get m a := rfl

/-- An address that no entry lists reads as erased. -/
theorem Memory.get_unlisted {m : Memory} {a : Nat} (h : ∀ e ∈ m, e.1 ≠ a) : m.get a = erased := by
  induction m with
  | nil => rfl
  | cons e m ih =>
    obtain ⟨k, b⟩ := e
    rw [Memory.get_cons, if_neg (h (k, b) (by simp)), ih fun e he => h e (by simp [he])]

/-- A prefix that does not list an address does not answer for it. -/
theorem Memory.get_append_right {m n : Memory} {a : Nat} (h : ∀ e ∈ m, e.1 ≠ a) : (m ++ n : Memory).get a = n.get a := by
  induction m with
  | nil => rfl
  | cons e m ih =>
    obtain ⟨k, b⟩ := e
    rw [List.cons_append, Memory.get_cons, if_neg (h (k, b) (by simp)), ih fun e he => h e (by simp [he])]

/-- A suffix that does not list an address does not answer for it. -/
theorem Memory.get_append_left {m n : Memory} {a : Nat} (h : ∀ e ∈ n, e.1 ≠ a) : (m ++ n : Memory).get a = m.get a := by
  induction m with
  | nil => exact Memory.get_unlisted h
  | cons e m ih =>
    obtain ⟨k, b⟩ := e
    rw [List.cons_append, Memory.get_cons, Memory.get_cons, ih]

/-- Keeping the entries at the addresses a test accepts keeps what those addresses read as. -/
theorem Memory.get_filter (m : Memory) (p : Nat → Bool) (a : Nat) :
    Memory.get (m.filter fun e => p e.1) a = if p a then m.get a else erased := by
  induction m with
  | nil => simp
  | cons e m ih =>
    obtain ⟨k, b⟩ := e
    by_cases hk : p k <;> by_cases ha : k = a
    · subst ha; simp [hk, Memory.get_cons]
    · simp [hk, ha, Memory.get_cons, ih]
    · subst ha; simp [hk, ih]
    · simp [hk, ha, Memory.get_cons, ih]

/-- The entries of a block stand at the addresses it covers, in canonical form. -/
theorem Memory.block_mem {a : Nat} {bs : List Byte} {e : Nat × Byte} (h : e ∈ Memory.block a bs) :
    a ≤ e.1 ∧ e.1 < a + bs.length ∧ e.2 ≠ erased := by
  induction bs generalizing a with
  | nil => simp [Memory.block] at h
  | cons b bs ih =>
    rw [Memory.block] at h
    split at h
    · have := ih h; simp only [List.length_cons]; exact ⟨by omega, by omega, this.2.2⟩
    · rcases List.mem_cons.1 h with rfl | h
      · simpa using ‹¬ _›
      · have := ih h; simp only [List.length_cons]; exact ⟨by omega, by omega, this.2.2⟩

/-- What a block reads as. -/
theorem Memory.get_block (a : Nat) (bs : List Byte) (x : Nat) :
    (Memory.block a bs).get x = if a ≤ x ∧ x < a + bs.length then bs.getD (x - a) erased else erased := by
  induction bs generalizing a with
  | nil => simp [Memory.block]
  | cons b bs ih =>
    rw [Memory.block]
    by_cases hx : x = a
    · subst hx
      split
      · rw [ih]; simp [*]
      · simp [Memory.get_cons]
    · have hg : (Memory.block (a + 1) bs).get x =
          if a ≤ x ∧ x < a + (b :: bs).length then (b :: bs).getD (x - a) erased else erased := by
        rw [ih, List.length_cons]
        by_cases hc : a + 1 ≤ x ∧ x < a + 1 + bs.length
        · rw [if_pos hc, if_pos (by omega), show x - a = (x - (a + 1)) + 1 by omega, List.getD_cons_succ]
        · rw [if_neg hc, if_neg (by omega)]
      split
      · exact hg
      · rw [Memory.get_cons, if_neg (by omega)]; exact hg

/-- A read after a write: the bytes written where they were written, the old bytes elsewhere. -/
theorem Memory.get_put (m : Memory) (a : Nat) (bs : List Byte) (x : Nat) :
    (m.put a bs).get x = if a ≤ x ∧ x < a + bs.length then bs.getD (x - a) erased else m.get x := by
  unfold Memory.put
  by_cases h1 : x < a
  · rw [Memory.get_append_left fun e he => by have := (List.mem_filter.1 he).2; simp at this; omega,
      Memory.get_append_left fun e he => by have := Memory.block_mem he; omega,
      Memory.get_filter m (fun k => k < a), if_neg (show ¬(a ≤ x ∧ x < a + bs.length) by omega)]
    simp [h1]
  · rw [List.append_assoc, Memory.get_append_right fun e he => by
      have := (List.mem_filter.1 he).2; simp at this; omega]
    by_cases h2 : x < a + bs.length
    · rw [Memory.get_append_left fun e he => by have := (List.mem_filter.1 he).2; simp at this; omega,
        Memory.get_block]
      simp [h2, Nat.not_lt.1 h1]
    · rw [Memory.get_append_right fun e he => by have := Memory.block_mem he; omega,
        Memory.get_filter m (fun k => a + bs.length ≤ k), if_neg (show ¬(a ≤ x ∧ x < a + bs.length) by omega)]
      simp [Nat.not_lt.1 h2]

/-- Canonical form from an address up, spelled out. -/
theorem Memory.wfFrom_cons {lo k : Nat} {b : Byte} {m : Memory} :
    Memory.wfFrom lo ((k, b) :: m) = true ↔ lo ≤ k ∧ b ≠ erased ∧ Memory.wfFrom (k + 1) m = true := by
  simp [Memory.wfFrom, and_assoc]

theorem Memory.wfFrom_mono {lo lo' : Nat} {m : Memory} (h : lo' ≤ lo) (hm : m.wfFrom lo) : m.wfFrom lo' := by
  cases m with
  | nil => rfl
  | cons e m => obtain ⟨k, b⟩ := e; rw [wfFrom_cons] at hm ⊢; exact ⟨by omega, hm.2⟩

theorem Memory.wfFrom_filter {lo : Nat} {m : Memory} (p : Nat × Byte → Bool) (hm : m.wfFrom lo) :
    Memory.wfFrom lo (m.filter p) := by
  induction m generalizing lo with
  | nil => rfl
  | cons e m ih =>
    obtain ⟨k, b⟩ := e
    rw [wfFrom_cons] at hm
    rw [List.filter_cons]
    split
    · exact wfFrom_cons.2 ⟨hm.1, hm.2.1, ih hm.2.2⟩
    · exact wfFrom_mono (by omega) (ih hm.2.2)

theorem Memory.wfFrom_le {lo : Nat} {m : Memory} (hm : m.wfFrom lo) {e : Nat × Byte} (he : e ∈ m) : lo ≤ e.1 := by
  induction m generalizing lo with
  | nil => simp at he
  | cons f m ih =>
    obtain ⟨k, b⟩ := f
    rw [wfFrom_cons] at hm
    rcases List.mem_cons.1 he with rfl | he
    · exact hm.1
    · have := ih hm.2.2 he; omega

/-- Canonical memories one above the other make a canonical memory. -/
theorem Memory.wfFrom_append {lo mid : Nat} {m n : Memory} (hm : m.wfFrom lo) (hn : n.wfFrom mid)
    (hle : lo ≤ mid) (hb : ∀ e ∈ m, e.1 < mid) : Memory.wfFrom lo (m ++ n) := by
  induction m generalizing lo with
  | nil => exact wfFrom_mono hle hn
  | cons e m ih =>
    obtain ⟨k, b⟩ := e
    rw [wfFrom_cons] at hm
    have := hb (k, b) (by simp)
    exact wfFrom_cons.2 ⟨hm.1, hm.2.1, ih hm.2.2 (by simpa using this) fun e he => hb e (by simp [he])⟩

theorem Memory.block_wfFrom (a : Nat) (bs : List Byte) : (Memory.block a bs).wfFrom a := by
  induction bs generalizing a with
  | nil => rfl
  | cons b bs ih =>
    rw [Memory.block]
    split
    · exact wfFrom_mono (by omega) (ih (a + 1))
    · exact wfFrom_cons.2 ⟨le_refl _, ‹_›, ih (a + 1)⟩

/-- A filter from an address up is canonical from there. -/
theorem Memory.wfFrom_filter_ge {lo : Nat} {m : Memory} (a : Nat) (hm : m.wfFrom lo) :
    Memory.wfFrom a (m.filter fun e => a ≤ e.1) := by
  induction m generalizing lo with
  | nil => rfl
  | cons e m ih =>
    obtain ⟨k, b⟩ := e
    rw [wfFrom_cons] at hm
    by_cases hk : a ≤ k
    · rw [List.filter_cons_of_pos (by simpa using hk)]
      exact wfFrom_cons.2 ⟨hk, hm.2.1, wfFrom_filter _ hm.2.2⟩
    · rw [List.filter_cons_of_neg (by simpa using hk)]
      exact ih hm.2.2

/-- A write keeps the canonical form. -/
theorem Memory.put_wf {m : Memory} (a : Nat) (bs : List Byte) (hm : m.wf) : (m.put a bs).wf := by
  unfold Memory.put Memory.wf
  rw [List.append_assoc]
  refine wfFrom_append (mid := a) (wfFrom_filter _ hm) ?_ (by omega) fun e he => by
    simpa using (List.mem_filter.1 he).2
  exact wfFrom_append (mid := a + bs.length) (block_wfFrom a bs) (wfFrom_filter_ge _ hm) (by omega) fun e he =>
    (block_mem he).2.1

/-- A write below a bound keeps every entry below it. -/
theorem Memory.put_within {m : Memory} {a n : Nat} {bs : List Byte} (hm : m.within n) (h : a + bs.length ≤ n) :
    (m.put a bs).within n := by
  simp only [Memory.within, List.all_eq_true, decide_eq_true_eq] at hm ⊢
  intro e he
  rcases List.mem_append.1 he with he | he
  · rcases List.mem_append.1 he with he | he
    · exact hm e (List.mem_filter.1 he).1
    · have := block_mem he; omega
  · exact hm e (List.mem_filter.1 he).1

/-- Canonical memories that read alike are equal. -/
theorem Memory.ext_wfFrom {lo : Nat} {m n : Memory} (hm : m.wfFrom lo) (hn : n.wfFrom lo)
    (h : ∀ a, m.get a = n.get a) : m = n := by
  have key : ∀ {k : Nat} {b : Byte} {l l' : Memory} {lo' : Nat}, Memory.wfFrom lo' ((k, b) :: l) = true →
      Memory.wfFrom (k + 1) l' = true → Memory.get ((k, b) :: l) k ≠ Memory.get l' k := by
    intro k b l l' lo' h1 h2 h3
    rw [get_cons, if_pos rfl, get_unlisted (m := l') fun e he => by have := wfFrom_le h2 he; omega] at h3
    exact (wfFrom_cons.1 h1).2.1 h3
  induction m generalizing lo n with
  | nil =>
    cases n with
    | nil => rfl
    | cons e n => obtain ⟨k, b⟩ := e; exact absurd (h k).symm (key (l' := []) hn rfl)
  | cons e m ih =>
    obtain ⟨k, b⟩ := e
    cases n with
    | nil => exact absurd (h k) (key (l' := []) hm rfl)
    | cons f n =>
      obtain ⟨k', b'⟩ := f
      have hk : k = k' := by
        rcases Nat.lt_trichotomy k k' with hlt | heq | hgt
        · exact absurd (h k) (key hm (wfFrom_cons.2 ⟨hlt, (wfFrom_cons.1 hn).2⟩))
        · exact heq
        · exact absurd (h k').symm (key hn (wfFrom_cons.2 ⟨hgt, (wfFrom_cons.1 hm).2⟩))
      subst hk
      have hb : b = b' := by simpa [get_cons] using h k
      subst hb
      have h1 := (wfFrom_cons.1 hm).2.2
      have h2 := (wfFrom_cons.1 hn).2.2
      rw [ih h1 h2 fun a => by
        by_cases ha : k = a
        · subst ha
          rw [get_unlisted fun e he => by have := wfFrom_le h1 he; omega,
            get_unlisted fun e he => by have := wfFrom_le h2 he; omega]
        · simpa [get_cons, ha] using h a]

/-- Canonical memories that read alike are equal. -/
theorem Memory.ext_wf {m n : Memory} (hm : m.wf) (hn : n.wf) (h : ∀ a, m.get a = n.get a) : m = n :=
  ext_wfFrom hm hn h

/-- Both storage arrays are canonical at reset. -/
theorem reset_storage_wf (r : Region) : (State.reset.storage r).wf = true := by cases r <;> rfl

/-- A MemWrite in bounds answers the state with the array written, and only there; out of bounds it answers nothing (R12). -/
theorem State.memWrite_eq (s : State) (r : Region) (a : Nat) (bs : List Byte) :
    (a + bs.length ≤ s.cfg.size r ∧ s.memWrite r a bs = some (s.setStorage r ((s.storage r).put a bs))) ∨
    (s.cfg.size r < a + bs.length ∧ s.memWrite r a bs = none) := by
  by_cases h : a + bs.length ≤ s.cfg.size r
  · exact .inl ⟨h, if_pos h⟩
  · exact .inr ⟨by omega, if_neg h⟩

/-- A MemWrite keeps both arrays canonical. -/
theorem State.memWrite_wf {s t : State} {r q : Region} {a : Nat} {bs : List Byte} (h : s.memWrite r a bs = some t)
    (hw : (s.storage q).wf) (hr : (s.storage r).wf) : (t.storage q).wf := by
  rcases s.memWrite_eq r a bs with ⟨-, he⟩ | ⟨-, he⟩ <;> rw [he] at h
  · cases h
    rw [State.setStorage_storage]
    split
    · exact Memory.put_wf _ _ hr
    · exact hw
  · cases h

/-- A preloaded region is canonical, whatever stood there before (R251). -/
theorem State.preload_wf (s : State) (r : Region) (bs : List Byte) : ((s.preload r bs).storage r).wf = true := by
  rw [State.preload, State.setStorage_storage, if_pos rfl]
  exact Memory.put_wf _ _ rfl

/-- A preload keeps the region's entries inside it: bytes past its size are not taken (log 12). -/
theorem State.preload_within (s : State) (r : Region) (bs : List Byte) :
    ((s.preload r bs).storage r).within (s.cfg.size r) = true := by
  rw [State.preload, State.setStorage_storage, if_pos rfl]
  exact Memory.put_within rfl (by rw [List.length_take]; omega)

/-- What the read port shows of a preloaded region: the byte given, and the erased byte past the bytes given (R251). -/
theorem State.preload_get (s : State) (r : Region) (bs : List Byte) {x : Nat} (h : x < s.cfg.size r) :
    ((s.preload r bs).storage r).get x = bs.getD x erased := by
  rw [State.preload, State.setStorage_storage, if_pos rfl, Memory.get_put, List.length_take]
  simp only [List.getD_eq_getElem?_getD]
  split
  · simp [h]
  · rw [List.getElem?_eq_none (by omega)]; rfl

/-- A preload leaves the other region alone. -/
theorem State.preload_other (s : State) {r q : Region} (bs : List Byte) (h : q ≠ r) :
    (s.preload r bs).storage q = s.storage q := by
  rw [State.preload, State.setStorage_storage, if_neg h]

end Sys2Proof.Machine
end

