-- ==== Sys2Proof/Laws/Ops.lean ====
section
/-! SUPPORT. One lemma per shared operation that says all it can do: the scheduler's pick, the preconditions of an operation, the page write, the trigger, and one step. -/

namespace Sys2Proof.Machine

/-- What the scheduler picks: the first enabled move, taken out of the list, or the guest's move when none is enabled. -/
theorem pickMove_cases (en : Move → Bool) (ms : List Move) :
    (∃ pre m post, ms = pre ++ m :: post ∧ (∀ x ∈ pre, en x = false) ∧ en m = true ∧ pickMove en ms = (m, pre ++ post)) ∨
    ((∀ x ∈ ms, en x = false) ∧ pickMove en ms = (.guest, ms)) := by
  induction ms with
  | nil => exact .inr ⟨by simp, rfl⟩
  | cons m ms ih =>
    by_cases h : en m
    · exact .inl ⟨[], m, ms, rfl, by simp, h, by simp [pickMove, h]⟩
    · rcases ih with ⟨pre, m', post, rfl, hp, hm, he⟩ | ⟨hn, he⟩
      · exact .inl ⟨m :: pre, m', post, rfl, by simpa [h] using hp, hm, by simp [pickMove, h, he]⟩
      · exact .inr ⟨by simpa [h] using hn, by simp [pickMove, h, he]⟩

/-- A move that is picked is enabled. -/
theorem pickMove_enabled {s : State} {ms rest : List Move} {m : Move} (h : pickMove s.enabled ms = (m, rest)) :
    s.enabled m = true := by
  rcases pickMove_cases s.enabled ms with ⟨_, m', _, -, -, hm, he⟩ | ⟨-, he⟩
  · rw [he] at h; cases h; exact hm
  · rw [he] at h; cases h; rfl

/-- The unlock gate, as its three keys. -/
theorem State.unlocked_iff (s : State) :
    s.unlocked = true ↔ s.keyRegion = true ∧ s.keyParam = true ∧ s.keyGlobal = true := by
  simp [State.unlocked, and_assoc]

/-- The preconditions of an operation: the first that fails gives the reason, and when none does the target is the staged page. -/
theorem opTarget_cases (s : State) :
    (s.unlocked = false ∧ opTarget s = .error .opLocked) ∨
    (s.unlocked = true ∧ s.stgRegion = none ∧ opTarget s = .error .opBadRegion) ∨
    (∃ r, s.unlocked = true ∧ s.stgRegion = some r ∧ s.cfg.size r ≤ (pageBase s.stgAddr).toNat ∧
      opTarget s = .error .opOutOfRange) ∨
    (∃ r a, s.targets r a ∧ opTarget s = .ok (r, a)) := by
  unfold opTarget
  cases hu : s.unlocked
  · exact .inl ⟨rfl, rfl⟩
  · cases hr : s.stgRegion with
    | none => exact .inr (.inl ⟨rfl, rfl, rfl⟩)
    | some r =>
      by_cases hs : s.cfg.size r ≤ (pageBase s.stgAddr).toNat
      · exact .inr (.inr (.inl ⟨r, rfl, rfl, hs, if_pos hs⟩))
      · exact .inr (.inr (.inr ⟨r, _, ⟨s.unlocked_iff.1 hu, hr, rfl, Nat.not_le.1 hs⟩, if_neg hs⟩))

/-- Where no page is a target, the preconditions fail for the reason that names the first that does. -/
theorem opTarget_untargeted {s : State} (h : ∀ r a, ¬s.targets r a) : opTarget s = .error s.failedPrecondition := by
  unfold State.failedPrecondition
  rcases opTarget_cases s with ⟨hu, he⟩ | ⟨hu, hr, he⟩ | ⟨_, hu, hr, -, he⟩ | ⟨r, a, ht, -⟩
  · rw [he, if_pos fun hk => by rw [s.unlocked_iff.2 hk] at hu; cases hu]
  · rw [he, if_neg (not_not.2 (s.unlocked_iff.1 hu)), if_pos hr]
  · rw [he, if_neg (not_not.2 (s.unlocked_iff.1 hu)), if_neg (by rw [hr]; exact Option.some_ne_none _)]
  · exact absurd ht (h r a)

/-- The target an operation resolves is the one the preconditions name. -/
theorem opTarget_ok {s : State} {r : Region} {a : Nat} : opTarget s = .ok (r, a) ↔ s.targets r a := by
  constructor
  · intro h
    rcases opTarget_cases s with ⟨-, he⟩ | ⟨-, -, he⟩ | ⟨_, -, -, -, he⟩ | ⟨r', a', ht, he⟩ <;> rw [he] at h <;> cases h
    exact ht
  · rintro ⟨hk, hr, rfl, hlt⟩
    have hu := s.unlocked_iff.2 hk
    unfold opTarget
    rw [hu, hr]
    exact if_neg (Nat.not_le.2 hlt)

/-- A page base is a multiple of the page size. -/
theorem pageBase_mod (v : Word) : (pageBase v).toNat % 512 = 0 := by
  have h : (pageBase v).extractLsb' 0 9 = 0#9 := by
    unfold pageBase
    ext i hi
    have : i < 9 := hi
    rw [BitVec.getElem_extractLsb']
    simp only [BitVec.getLsbD_and]
    interval_cases i <;> simp
  have := congrArg BitVec.toNat h
  simpa [BitVec.extractLsb'_toNat] using this

/-- With a legal region size, a page that begins inside the region ends inside it (R164). -/
theorem page_in_region {n : Nat} {v : Word} (hn : Config.legalSize n = true) (h : (pageBase v).toNat < n) :
    (pageBase v).toNat + 512 ≤ n := by
  simp only [Config.legalSize, Bool.and_eq_true, decide_eq_true_eq, beq_iff_eq] at hn
  have := pageBase_mod v
  omega

/-- The legal configurations, size by size. -/
theorem Config.wf_size {c : Config} (h : c.wf = true) (r : Region) : Config.legalSize (c.size r) = true := by
  simp only [Config.wf, Bool.and_eq_true] at h
  cases r
  · exact h.1.1.1
  · exact h.1.1.2

/-- The whole targeted page is inside its region (R164). -/
theorem targets_in_region {s : State} {r : Region} {a : Nat} (hc : s.cfg.wf = true) (h : s.targets r a) :
    a + 512 ≤ s.cfg.size r := by
  obtain ⟨-, -, rfl, hlt⟩ := h
  exact page_in_region (Config.wf_size hc r) hlt

/-- A page write in bounds answers the state with the page written and `eint` set; out of bounds it faults. -/
theorem writePage_cases (r : Region) (a : Nat) (bs : List Byte) (s : State) :
    (a + bs.length ≤ s.cfg.size r ∧ writePage r a bs s = .next (s.setStorage r ((s.storage r).put a bs)).opDone) ∨
    (s.cfg.size r < a + bs.length ∧ writePage r a bs s = .fault .memWriteOutOfRegion) := by
  rcases s.memWrite_eq r a bs with ⟨h, he⟩ | ⟨h, he⟩
  · exact .inl ⟨h, by simp [writePage, he]⟩
  · exact .inr ⟨h, by simp [writePage, he]⟩

/-- The fields of a trigger's write value. -/
theorem opWord_fields (n : BitVec 4) : opcodeMagic (opWord n) = opMagic ∧ opcodeField (opWord n) = n := by
  revert n; decide

/-- An erased page has a page's bytes. -/
@[simp] theorem erasedPage_length : erasedPage.length = 512 := List.length_replicate

/-- Every byte of an erased page is erased. -/
theorem erasedPage_getD {k : Nat} (h : k < 512) : erasedPage.getD k erased = erased := by
  rw [List.getD_eq_getElem _ _ (by rw [erasedPage_length]; exact h)]
  exact List.getElem_replicate _

/-- The page buffer's bytes are as many as a page has. -/
theorem pagebuf_length (s : State) : s.pagebuf.toList.length = 512 := by simp

/-- What a trigger with good magic answers: a rejection that names the first failing check, one of the three operations on the page it targets, or an unimplemented opcode. -/
theorem opTrigger_cases (sz : Width) (n : BitVec 4) (s : State) :
    ((∀ r a, ¬s.targets r a) ∧
      opTrigger sz (opWord n) s = .next (s.rejected s.failedPrecondition .reg offOpcode sz (opWord n))) ∨
    (∃ r a, s.targets r a ∧
      ((n = 0x2 ∧ opTrigger sz (opWord n) s = bufferErase s) ∨
       (n = 0xA ∧ opTrigger sz (opWord n) s = pageErase r a s) ∨
       ((n = 0x4 ∨ n = 0x5 ∨ n = 0xC ∨ n = 0xE) ∧ opTrigger sz (opWord n) s = pageProgram r a s) ∨
       ((n ≠ 0x2 ∧ n ≠ 0xA ∧ n ≠ 0x4 ∧ n ≠ 0x5 ∧ n ≠ 0xC ∧ n ≠ 0xE) ∧
        opTrigger sz (opWord n) s = .next (s.rejected .opUnimplemented .reg offOpcode sz (opWord n))))) := by
  obtain ⟨hm, hf⟩ := opWord_fields n
  by_cases h : ∀ r a, ¬s.targets r a
  · exact .inl ⟨h, by simp [opTrigger, hm, opTarget_untargeted h]⟩
  · obtain ⟨r, a, ht⟩ : ∃ r a, s.targets r a := by simpa using h
    have he := opTarget_ok.2 ht
    refine .inr ⟨r, a, ht, ?_⟩
    unfold opTrigger
    rw [if_neg (not_not.2 hm), he]
    simp only [hf]
    by_cases h2 : n = 0x2
    · exact .inl ⟨h2, if_pos h2⟩
    by_cases hA : n = 0xA
    · exact .inr (.inl ⟨hA, by rw [if_neg h2, if_pos hA]⟩)
    by_cases hp : n = 0x4 ∨ n = 0x5 ∨ n = 0xC ∨ n = 0xE
    · exact .inr (.inr (.inl ⟨hp, by rw [if_neg h2, if_neg hA, if_pos hp]⟩))
    · refine .inr (.inr (.inr ⟨?_, by rw [if_neg h2, if_neg hA, if_neg hp]⟩))
      simp only [not_or] at hp
      exact ⟨h2, hA, hp⟩

/-- What one step that goes on does: the picked agent's move, on the state with the move taken off the schedule. -/
theorem step_cases {s t : State} (h : step s = .next t) :
    ∃ m rest, s.moves m rest ∧
      ((m = .guest ∧ s.fetch = none ∧ t = s.withSchedule rest) ∨
       (m = .guest ∧ (∃ w, s.fetch = some w ∧ (decode w).wellFormed s.cfg = false) ∧
         t = (s.withSchedule rest).refuse .descriptor) ∨
       (m = .guest ∧ ∃ i, s.issues i rest ∧ exec i (s.withSchedule rest) = .next t) ∨
       (∃ b, m = .rxDeliver b ∧ t = rxDeliver b (s.withSchedule rest)) ∨
       (∃ ready, m = .txReady ready ∧ t = { s.withSchedule rest with txReady := ready }) ∨
       (m = .reset ∧ t = resetBlock (s.withSchedule rest))) := by
  unfold step at h
  by_cases hm : s.refusalMark = true
  · rw [if_pos hm] at h; cases h
  rw [if_neg hm] at h
  replace hm : s.refusalMark = false := by simpa using hm
  obtain ⟨m, rest, hp⟩ : ∃ m rest, pickMove s.enabled s.schedule = (m, rest) := ⟨_, _, rfl⟩
  refine ⟨m, rest, ⟨hm, hp⟩, ?_⟩
  rw [agentStep, hp] at h
  cases m with
  | guest =>
    simp only [runMove, guestMove] at h
    rw [State.withSchedule_fetch, State.withSchedule_cfg] at h
    cases hw : s.fetch with
    | none => rw [hw] at h; cases h; exact .inl ⟨rfl, rfl, rfl⟩
    | some w =>
      rw [hw] at h
      cases hwf : (decode w).wellFormed s.cfg with
      | false =>
        simp only [decodeChecked, hwf] at h
        cases h
        exact .inr (.inl ⟨rfl, ⟨w, rfl, hwf⟩, rfl⟩)
      | true =>
        simp only [decodeChecked, hwf] at h
        exact .inr (.inr (.inl ⟨rfl, decode w, ⟨w, ⟨⟨hm, hp⟩, hw⟩, rfl, hwf⟩, h⟩))
  | rxDeliver b => cases h; exact .inr (.inr (.inr (.inl ⟨b, rfl, rfl⟩)))
  | txReady r => cases h; exact .inr (.inr (.inr (.inr (.inl ⟨r, rfl, rfl⟩))))
  | reset => cases h; exact .inr (.inr (.inr (.inr (.inr ⟨rfl, rfl⟩))))

end Sys2Proof.Machine
end

