-- ==== Sys2Proof/Laws/Effects.lean ====
section
/-! SUPPORT. What an instruction that goes on can do, said once: one case per shape of effect. Frames and invariants follow from it by cases. -/

namespace Sys2Proof.Machine

/-- The one operand on which a bad-magic instruction is no row of the table: data with the right magic. -/
def misplacedMagic (i : Instr) : Prop := i.inRow = false ∧ ∃ sz data, i = .nvmOpBadmagic sz data

/-- The effects of the instructions: `Effect i s t` when the instruction `i` takes the state `s` to `t`. -/
inductive Effect (i : Instr) (s : State) : State → Prop where
  | refuse (r : RefuseReason) : Effect i s (s.refuse r)
  | reject (r : Reason) (win : Window) (off : Offset) (sz : Width) (data : Word) (hi : i.txn = .narrow win .wr sz off data) :
      Effect i s (s.rejected r win off sz data)
  | rejectRead (win : Window) (off : Offset) (sz : Width) (data : Word) (hi : i.txn = .narrow win .rd sz off data) :
      Effect i s (s.rejectedRead win off sz)
  | drop (hd : i.txn.dir = .wr) : Effect i s (s.respond .drop)
  | dropBus (hd : i.txn.dir = .wr) : Effect i s (s.respond (.dropBus s.cfg.busRejectResponse))
  | nvmStatusRd (sz : Width) (data : Word) (hi : i = .nvmStatusRd sz data) : Effect i s (s.readDone sz s.nvmStatus)
  | nvmStatusWr (sz : Width) (data : Word) (hi : i = .nvmStatusWr sz data) : Effect i s ((s.ackEint data).respond .done)
  | keyRegion (sz : Width) (data : Word) (hi : i = .nvmKeyRegionWr sz data) :
      Effect i s ({ s with keyRegion := data == sentRegion }.respond .done)
  | keyParam (sz : Width) (data : Word) (hi : i = .nvmKeyParamWr sz data) :
      Effect i s ({ s with keyParam := data == sentParam }.respond .done)
  | keyGlobal (sz : Width) (data : Word) (hi : i = .nvmKeyGlobalWr sz data) :
      Effect i s ({ s with keyGlobal := data == sentGlobal }.respond .done)
  | uartStatusRd (sz : Width) (data : Word) (hi : i = .uartStatusRd sz data) : Effect i s (s.readDone sz s.uartStatus)
  | uartStatusWr (sz : Width) (data : Word) (hi : i = .uartStatusWr sz data) :
      Effect i s ((s.cancelTxs data).respond .done)
  | uartRxdataRd (sz : Width) (data : Word) (hi : i = .uartRxdataRd sz data) :
      Effect i s ({ s with rxr := false }.readDone sz (s.rxByte.setWidth 32))
  | transmit (sz : Width) (data : Word) (hi : i = .uartTxdataWr sz data) (h : s.txReady = true) :
      Effect i s ({ s with txs := true, txOut := s.txOut ++ [txByte data] }.respond .done)
  | hold (sz : Width) (data : Word) (hi : i = .uartTxdataWr sz data) (h : s.txReady = false) : Effect i s s.held
  | stagingRead (sz : Width) (hd : i.txn.dir = .rd) : Effect i s (stagingRead sz s)
  | stage (r : Region) (off : Offset) (data : Word) (hi : i = .stgCodeSt4 off data ∨ i = .stgParamSt4 off data)
      (hu : s.unlocked = true) : Effect i s ((s.stage r off data).respond .done)
  | bufferErase (sz : Width) (r : Region) (a : Nat) (hi : i = .nvmOpBuferase sz ∨ misplacedMagic i) (ht : s.targets r a) :
      Effect i s { s with pagebuf := Vector.replicate 512 erased }.opDone
  | pageWrite (sz : Width) (r : Region) (a : Nat) (bs : List Byte)
      (hi : i = .nvmOpPageerase sz ∨ i ∈ programTriggers sz ∨ misplacedMagic i) (ht : s.targets r a)
      (hb : a + 512 ≤ s.cfg.size r) (hl : bs.length = 512) (hs : bs = erasedPage ∨ bs = s.pagebuf.toList) :
      Effect i s (s.setStorage r ((s.storage r).put a bs)).opDone

/-- A trigger's effect, from the rows its opcode may stand in. -/
theorem opTrigger_effect {i : Instr} {sz : Width} {n : BitVec 4} {s t : State} (h : opTrigger sz (opWord n) s = .next t)
    (hd : i.txn = .narrow .reg .wr sz offOpcode (opWord n)) (h2 : n = 0x2 → i = .nvmOpBuferase sz ∨ misplacedMagic i)
    (hp : n = 0xA ∨ n = 0x4 ∨ n = 0x5 ∨ n = 0xC ∨ n = 0xE →
      i = .nvmOpPageerase sz ∨ i ∈ programTriggers sz ∨ misplacedMagic i) : Effect i s t := by
  rcases opTrigger_cases sz n s with ⟨-, he⟩ | ⟨r, a, ht, ⟨hn, he⟩ | ⟨hn, he⟩ | ⟨hn, he⟩ | ⟨-, he⟩⟩ <;> rw [he] at h
  · cases h; exact .reject _ _ _ _ _ hd
  · cases h; exact .bufferErase sz _ _ (h2 hn) ht
  · rcases writePage_cases r a erasedPage s with ⟨hb, hw⟩ | ⟨-, hw⟩ <;> rw [pageErase, hw] at h <;> cases h
    exact .pageWrite sz _ _ _ (hp (.inl hn)) ht (erasedPage_length ▸ hb) erasedPage_length (.inl rfl)
  · rcases writePage_cases r a s.pagebuf.toList s with ⟨hb, hw⟩ | ⟨-, hw⟩ <;> rw [pageProgram, hw] at h <;> cases h
    exact .pageWrite sz _ _ _ (hp (.inr hn)) ht (pagebuf_length s ▸ hb) (pagebuf_length s) (.inr rfl)
  · cases h; exact .reject _ _ _ _ _ hd

/-- The effect of an aligned 4-byte store to a staging window. -/
theorem stageStore_effect {i : Instr} {win : Window} {r : Region} {off : Offset} {data : Word} (s : State)
    (hi : i = .stgCodeSt4 off data ∨ i = .stgParamSt4 off data) (hd : i.txn = .narrow win .wr .w4 off data) :
    Effect i s (stageStore win r off data s) := by
  unfold stageStore
  cases hu : s.unlocked
  · exact .drop (by rw [hd]; rfl)
  · rw [if_neg (by decide)]
    split
    · exact .reject _ _ _ _ _ hd
    · exact .stage _ _ _ hi hu

/-- Data with the right magic is the trigger word of its opcode. -/
theorem opWord_of_magic {data : Word} (h : opcodeMagic data = opMagic) : data = opWord (opcodeField data) := by
  have hd : data = opcodeMagic data ++ opcodeField data := by
    apply BitVec.eq_of_toNat_eq
    simp only [opcodeMagic, opcodeField, BitVec.toNat_append, BitVec.extractLsb'_toNat]
    have := data.isLt
    rw [← Nat.shiftLeft_add_eq_or_of_lt (by omega)]
    simp only [Nat.shiftLeft_eq, Nat.shiftRight_eq_div_pow]
    omega
  rw [h] at hd
  exact hd

/-- Every instruction that goes on has one of the effects. -/
theorem exec_effect {i : Instr} {s t : State} (h : exec i s = .next t) : Effect i s t := by
  cases i with
  | nvmOpBuferase sz => exact opTrigger_effect (n := 0x2) h rfl (fun _ => .inl rfl) (fun h => absurd h (by decide))
  | nvmOpPageerase sz => exact opTrigger_effect (n := 0xA) h rfl (fun h => absurd h (by decide)) (fun _ => .inl rfl)
  | nvmOpProg4 sz =>
    exact opTrigger_effect (n := 0x4) h rfl (fun h => absurd h (by decide)) (fun _ => .inr (.inl (by simp [programTriggers])))
  | nvmOpProg5 sz =>
    exact opTrigger_effect (n := 0x5) h rfl (fun h => absurd h (by decide)) (fun _ => .inr (.inl (by simp [programTriggers])))
  | nvmOpProgC sz =>
    exact opTrigger_effect (n := 0xC) h rfl (fun h => absurd h (by decide)) (fun _ => .inr (.inl (by simp [programTriggers])))
  | nvmOpProgE sz =>
    exact opTrigger_effect (n := 0xE) h rfl (fun h => absurd h (by decide)) (fun _ => .inr (.inl (by simp [programTriggers])))
  | nvmOpUnimpl0 sz =>
    exact opTrigger_effect (n := 0x0) h rfl (fun h => absurd h (by decide)) (fun h => absurd h (by decide))
  | nvmOpUnimpl1 sz =>
    exact opTrigger_effect (n := 0x1) h rfl (fun h => absurd h (by decide)) (fun h => absurd h (by decide))
  | nvmOpUnimpl3 sz =>
    exact opTrigger_effect (n := 0x3) h rfl (fun h => absurd h (by decide)) (fun h => absurd h (by decide))
  | nvmOpUnimpl6 sz =>
    exact opTrigger_effect (n := 0x6) h rfl (fun h => absurd h (by decide)) (fun h => absurd h (by decide))
  | nvmOpUnimpl7 sz =>
    exact opTrigger_effect (n := 0x7) h rfl (fun h => absurd h (by decide)) (fun h => absurd h (by decide))
  | nvmOpUnimpl8 sz =>
    exact opTrigger_effect (n := 0x8) h rfl (fun h => absurd h (by decide)) (fun h => absurd h (by decide))
  | nvmOpUnimpl9 sz =>
    exact opTrigger_effect (n := 0x9) h rfl (fun h => absurd h (by decide)) (fun h => absurd h (by decide))
  | nvmOpUnimplB sz =>
    exact opTrigger_effect (n := 0xB) h rfl (fun h => absurd h (by decide)) (fun h => absurd h (by decide))
  | nvmOpUnimplD sz =>
    exact opTrigger_effect (n := 0xD) h rfl (fun h => absurd h (by decide)) (fun h => absurd h (by decide))
  | nvmOpUnimplF sz =>
    exact opTrigger_effect (n := 0xF) h rfl (fun h => absurd h (by decide)) (fun h => absurd h (by decide))
  | nvmOpBadmagic sz data =>
    by_cases hm : opcodeMagic data = opMagic
    · have hx : misplacedMagic (.nvmOpBadmagic sz data) :=
        ⟨by simpa [Instr.inRow, opcodeMagic] using hm, sz, data, rfl⟩
      rw [exec, execNvmOpBadmagic, opWord_of_magic hm] at h
      exact opTrigger_effect h (congrArg (Txn.narrow .reg .wr sz offOpcode) (opWord_of_magic hm)) (fun _ => .inr hx) (fun _ => .inr (.inr hx))
    · rw [exec, execNvmOpBadmagic, opTrigger, if_pos hm] at h
      cases h; exact .reject _ _ _ _ _ rfl
  | stgCodeSt4 off data => cases h; exact stageStore_effect s (.inl rfl) rfl
  | stgParamSt4 off data => cases h; exact stageStore_effect s (.inr rfl) rfl
  | uartTxdataWr sz data =>
    rw [exec, execUartTxdataWr] at h
    by_cases hr : s.txReady = true
    · rw [if_pos hr] at h; cases h; exact .transmit _ _ rfl hr
    · rw [if_neg hr] at h; cases h; exact .hold _ _ rfl (by simpa using hr)
  | nvmStatusRd sz data => cases h; exact .nvmStatusRd _ _ rfl
  | nvmStatusWr sz data => cases h; exact .nvmStatusWr _ _ rfl
  | nvmKeyRegionWr sz data => cases h; exact .keyRegion _ _ rfl
  | nvmKeyParamWr sz data => cases h; exact .keyParam _ _ rfl
  | nvmKeyGlobalWr sz data => cases h; exact .keyGlobal _ _ rfl
  | uartStatusRd sz data => cases h; exact .uartStatusRd _ _ rfl
  | uartStatusWr sz data => cases h; exact .uartStatusWr _ _ rfl
  | uartRxdataRd sz data => cases h; exact .uartRxdataRd _ _ rfl
  | stgCodeWrBadwidth sz off data | stgParamWrBadwidth sz off data => cases h; exact .dropBus rfl
  | stgCodeRd sz off data | stgParamRd sz off data => cases h; exact .stagingRead _ rfl
  | anyW8 win dir off data => cases h; exact .refuse _
  | stgCodeStMisaligned off data | stgParamStMisaligned off data => cases h; exact .refuse _
  | nvmUnmappedWr sz off data | uartUnmappedWr sz off data | uartRxdataWr sz data =>
    cases h; exact .reject _ _ _ _ _ rfl
  | nvmWoRd04 sz data | nvmWoRd20 sz data | nvmWoRd24 sz data | nvmWoRd28 sz data | uartTxdataRd sz data =>
    cases h; exact .rejectRead _ _ _ _ rfl
  | nvmUnmappedRd sz off data | uartUnmappedRd sz off data => cases h; exact .rejectRead _ _ _ _ rfl

end Sys2Proof.Machine
end

