-- ==== Sys2Proof/Laws/PerInstr.lean ====
section
/-! SUPPORT. What holds of every instruction as syntax, one lemma per constructor. Family DecodeEncode: the transaction of an instruction in its own row decodes to that instruction (R72). -/

namespace Sys2Proof.Laws

open Sys2Proof Sys2Proof.Machine

/-- The transaction of an instruction in its own row decodes to it, with every operand. -/
def DecodeEncode.Statement (i : Instr) : Prop := i.inRow = true → decodeTxn i.txn = i

theorem DecodeEncode.anyW8 (win : Window) (dir : Dir) (off : Offset) (data : Word) : DecodeEncode.Statement (.anyW8 win dir off data) :=
  fun _ => rfl

theorem DecodeEncode.nvmStatusRd (sz : Width) (data : Word) : DecodeEncode.Statement (.nvmStatusRd sz data) :=
  fun _ => rfl

theorem DecodeEncode.nvmStatusWr (sz : Width) (data : Word) : DecodeEncode.Statement (.nvmStatusWr sz data) :=
  fun _ => rfl

theorem DecodeEncode.nvmOpBuferase (sz : Width) : DecodeEncode.Statement (.nvmOpBuferase sz) :=
  fun _ => rfl

theorem DecodeEncode.nvmOpPageerase (sz : Width) : DecodeEncode.Statement (.nvmOpPageerase sz) :=
  fun _ => rfl

theorem DecodeEncode.nvmOpProg4 (sz : Width) : DecodeEncode.Statement (.nvmOpProg4 sz) :=
  fun _ => rfl

theorem DecodeEncode.nvmOpProg5 (sz : Width) : DecodeEncode.Statement (.nvmOpProg5 sz) :=
  fun _ => rfl

theorem DecodeEncode.nvmOpProgC (sz : Width) : DecodeEncode.Statement (.nvmOpProgC sz) :=
  fun _ => rfl

theorem DecodeEncode.nvmOpProgE (sz : Width) : DecodeEncode.Statement (.nvmOpProgE sz) :=
  fun _ => rfl

theorem DecodeEncode.nvmOpUnimpl0 (sz : Width) : DecodeEncode.Statement (.nvmOpUnimpl0 sz) :=
  fun _ => rfl

theorem DecodeEncode.nvmOpUnimpl1 (sz : Width) : DecodeEncode.Statement (.nvmOpUnimpl1 sz) :=
  fun _ => rfl

theorem DecodeEncode.nvmOpUnimpl3 (sz : Width) : DecodeEncode.Statement (.nvmOpUnimpl3 sz) :=
  fun _ => rfl

theorem DecodeEncode.nvmOpUnimpl6 (sz : Width) : DecodeEncode.Statement (.nvmOpUnimpl6 sz) :=
  fun _ => rfl

theorem DecodeEncode.nvmOpUnimpl7 (sz : Width) : DecodeEncode.Statement (.nvmOpUnimpl7 sz) :=
  fun _ => rfl

theorem DecodeEncode.nvmOpUnimpl8 (sz : Width) : DecodeEncode.Statement (.nvmOpUnimpl8 sz) :=
  fun _ => rfl

theorem DecodeEncode.nvmOpUnimpl9 (sz : Width) : DecodeEncode.Statement (.nvmOpUnimpl9 sz) :=
  fun _ => rfl

theorem DecodeEncode.nvmOpUnimplB (sz : Width) : DecodeEncode.Statement (.nvmOpUnimplB sz) :=
  fun _ => rfl

theorem DecodeEncode.nvmOpUnimplD (sz : Width) : DecodeEncode.Statement (.nvmOpUnimplD sz) :=
  fun _ => rfl

theorem DecodeEncode.nvmOpUnimplF (sz : Width) : DecodeEncode.Statement (.nvmOpUnimplF sz) :=
  fun _ => rfl

theorem DecodeEncode.nvmOpBadmagic (sz : Width) (data : Word) : DecodeEncode.Statement (.nvmOpBadmagic sz data) :=
  fun h => by
  have hne : ∀ n, data ≠ opWord n := by
    rintro n rfl
    rw [Instr.inRow, show (opWord n).extractLsb' 4 28 = opMagic from (opWord_fields n).1] at h
    simp at h
  simp [Instr.txn, Txn.narrow, decodeTxn, decodeReg, decodeOpcode, offOpcode, offStatus, hne]

theorem DecodeEncode.nvmKeyRegionWr (sz : Width) (data : Word) : DecodeEncode.Statement (.nvmKeyRegionWr sz data) :=
  fun _ => rfl

theorem DecodeEncode.nvmKeyParamWr (sz : Width) (data : Word) : DecodeEncode.Statement (.nvmKeyParamWr sz data) :=
  fun _ => rfl

theorem DecodeEncode.nvmKeyGlobalWr (sz : Width) (data : Word) : DecodeEncode.Statement (.nvmKeyGlobalWr sz data) :=
  fun _ => rfl

theorem DecodeEncode.nvmWoRd04 (sz : Width) (data : Word) : DecodeEncode.Statement (.nvmWoRd04 sz data) :=
  fun _ => rfl

theorem DecodeEncode.nvmWoRd20 (sz : Width) (data : Word) : DecodeEncode.Statement (.nvmWoRd20 sz data) :=
  fun _ => rfl

theorem DecodeEncode.nvmWoRd24 (sz : Width) (data : Word) : DecodeEncode.Statement (.nvmWoRd24 sz data) :=
  fun _ => rfl

theorem DecodeEncode.nvmWoRd28 (sz : Width) (data : Word) : DecodeEncode.Statement (.nvmWoRd28 sz data) :=
  fun _ => rfl

theorem DecodeEncode.nvmUnmappedRd (sz : Width) (off : Offset) (data : Word) : DecodeEncode.Statement (.nvmUnmappedRd sz off data) :=
  fun h => by
  simp only [Instr.inRow, regMapped, Bool.not_eq_true', Bool.or_eq_false_iff, beq_eq_false_iff_ne, ne_eq] at h
  obtain ⟨⟨⟨⟨h0, h1⟩, h2⟩, h3⟩, h4⟩ := h
  simp [Instr.txn, Txn.narrow, decodeTxn, decodeReg, h0, h1, h2, h3, h4]

theorem DecodeEncode.nvmUnmappedWr (sz : Width) (off : Offset) (data : Word) : DecodeEncode.Statement (.nvmUnmappedWr sz off data) :=
  fun h => by
  simp only [Instr.inRow, regMapped, Bool.not_eq_true', Bool.or_eq_false_iff, beq_eq_false_iff_ne, ne_eq] at h
  obtain ⟨⟨⟨⟨h0, h1⟩, h2⟩, h3⟩, h4⟩ := h
  simp [Instr.txn, Txn.narrow, decodeTxn, decodeReg, h0, h1, h2, h3, h4]

theorem DecodeEncode.uartStatusRd (sz : Width) (data : Word) : DecodeEncode.Statement (.uartStatusRd sz data) :=
  fun _ => rfl

theorem DecodeEncode.uartStatusWr (sz : Width) (data : Word) : DecodeEncode.Statement (.uartStatusWr sz data) :=
  fun _ => rfl

theorem DecodeEncode.uartRxdataRd (sz : Width) (data : Word) : DecodeEncode.Statement (.uartRxdataRd sz data) :=
  fun _ => rfl

theorem DecodeEncode.uartTxdataWr (sz : Width) (data : Word) : DecodeEncode.Statement (.uartTxdataWr sz data) :=
  fun _ => rfl

theorem DecodeEncode.uartRxdataWr (sz : Width) (data : Word) : DecodeEncode.Statement (.uartRxdataWr sz data) :=
  fun _ => rfl

theorem DecodeEncode.uartTxdataRd (sz : Width) (data : Word) : DecodeEncode.Statement (.uartTxdataRd sz data) :=
  fun _ => rfl

theorem DecodeEncode.uartUnmappedRd (sz : Width) (off : Offset) (data : Word) : DecodeEncode.Statement (.uartUnmappedRd sz off data) :=
  fun h => by
  simp only [Instr.inRow, uartMapped, Bool.not_eq_true', Bool.or_eq_false_iff, beq_eq_false_iff_ne, ne_eq] at h
  obtain ⟨⟨h0, h1⟩, h2⟩ := h
  simp [Instr.txn, Txn.narrow, decodeTxn, decodeUart, h0, h1, h2]

theorem DecodeEncode.uartUnmappedWr (sz : Width) (off : Offset) (data : Word) : DecodeEncode.Statement (.uartUnmappedWr sz off data) :=
  fun h => by
  simp only [Instr.inRow, uartMapped, Bool.not_eq_true', Bool.or_eq_false_iff, beq_eq_false_iff_ne, ne_eq] at h
  obtain ⟨⟨h0, h1⟩, h2⟩ := h
  simp [Instr.txn, Txn.narrow, decodeTxn, decodeUart, h0, h1, h2]

theorem DecodeEncode.stgCodeSt4 (off : Offset) (data : Word) : DecodeEncode.Statement (.stgCodeSt4 off data) :=
  fun h => by
  simp only [Instr.inRow] at h
  simp [Instr.txn, Txn.narrow, decodeTxn, decodeCode, h]

theorem DecodeEncode.stgCodeStMisaligned (off : Offset) (data : Word) : DecodeEncode.Statement (.stgCodeStMisaligned off data) :=
  fun h => by
  simp only [Instr.inRow, Bool.not_eq_true'] at h
  simp [Instr.txn, Txn.narrow, decodeTxn, decodeCode, h]

theorem DecodeEncode.stgCodeWrBadwidth (sz : Width) (off : Offset) (data : Word) : DecodeEncode.Statement (.stgCodeWrBadwidth sz off data) :=
  fun h => by
  cases sz
  · rfl
  · rfl
  · cases h

theorem DecodeEncode.stgCodeRd (sz : Width) (off : Offset) (data : Word) : DecodeEncode.Statement (.stgCodeRd sz off data) :=
  fun _ => rfl

theorem DecodeEncode.stgParamSt4 (off : Offset) (data : Word) : DecodeEncode.Statement (.stgParamSt4 off data) :=
  fun h => by
  simp only [Instr.inRow] at h
  simp [Instr.txn, Txn.narrow, decodeTxn, decodeParam, h]

theorem DecodeEncode.stgParamStMisaligned (off : Offset) (data : Word) : DecodeEncode.Statement (.stgParamStMisaligned off data) :=
  fun h => by
  simp only [Instr.inRow, Bool.not_eq_true'] at h
  simp [Instr.txn, Txn.narrow, decodeTxn, decodeParam, h]

theorem DecodeEncode.stgParamWrBadwidth (sz : Width) (off : Offset) (data : Word) : DecodeEncode.Statement (.stgParamWrBadwidth sz off data) :=
  fun h => by
  cases sz
  · rfl
  · rfl
  · cases h

theorem DecodeEncode.stgParamRd (sz : Width) (off : Offset) (data : Word) : DecodeEncode.Statement (.stgParamRd sz off data) :=
  fun _ => rfl

end Sys2Proof.Laws
end

