-- ==== Sys2Proof/Tests/Slice0.lean ====
section
/-! SUPPORT. Tests: well-formedness, decoding of words written out from the spec, single steps from 95_test_vectors.md, and a witness for the hypotheses of every statement. Expected results come from the spec's tables, named at each test. -/

namespace Sys2Proof.Tests

open Sys2Proof.Machine

set_option Elab.async false

/-! The states of 95_test_vectors.md -/

/-- The default sizes, and 0 for the open parameters. -/
def cfg0 : Config := ⟨0x49000, 512, 2 ^ 27, 2 ^ 27, 0, 0, 0, 0, 7, false, false⟩

/-- A page buffer whose byte `i` is `i mod 256`. -/
def countingPage : Vector Byte 512 := ⟨⟨(List.range 512).map (BitVec.ofNat 8)⟩, by simp⟩

/-- A state of `CleanEntry`, its unspecified parts given values. -/
def clean : State :=
  { State.created cfg0 with
    pagebuf := countingPage, stgRegion := none, stgAddr := 0, rxByte := 0, rxr := false, txs := false }

/-- `U`: `CleanEntry` after the three sentinel writes. -/
def u : State := { clean with keyRegion := true, keyParam := true, keyGlobal := true }

/-- `u` with the staging pointer at an offset of a region. -/
def at_ (r : Region) (a : Word) : State := { u with stgRegion := some r, stgAddr := a }

/-- `u` with a valid staging pointer, the one of P1v. -/
def valid : State := at_ .userCode 0x100

/-- `clean` with an unread received byte, and a completed transmit. -/
def uartBusy : State := { clean with rxByte := 0x41, rxr := true, txs := true }

/-- The one step that issues the descriptor `w` ends in a state that meets `p`. -/
def runs (w : Descriptor) (s : State) (p : State → Bool) : Bool :=
  match step (s.withTransaction w) with
  | .next t => p t
  | _ => false

/-- The one step from `s` ends in a state that meets `p`. -/
def steps (s : State) (p : State → Bool) : Bool :=
  match step s with
  | .next t => p t
  | _ => false

/-- The architectural state of `t` is that of `s`, the page buffer compared at three bytes. -/
def same (t s : State) : Bool :=
  t.unlockMask == s.unlockMask && t.eint == s.eint && t.stgRegion == s.stgRegion && t.stgAddr == s.stgAddr &&
  t.storageCode == s.storageCode && t.storageParam == s.storageParam &&
  t.rxByte == s.rxByte && t.rxr == s.rxr && t.txs == s.txs &&
  t.pagebuf[0] == s.pagebuf[0] && t.pagebuf[0x102] == s.pagebuf[0x102] && t.pagebuf[511] == s.pagebuf[511]

/-- UserParam holds the counting page, compared at four bytes, and nothing else changed but `eint`. -/
def programmed (t : State) : Bool :=
  t.storeRead .userParam 0 == some 0 && t.storeRead .userParam 1 == some 1 && t.storeRead .userParam 0x102 == some 2 &&
  t.storeRead .userParam 511 == some 0xFF && t.eint && t.storageCode.isEmpty && t.pagebuf[1] == 1

/-! Well-formedness: one ill-formed term for each check (R71, R72) -/

theorem test_wf_offset_outside_window :
    (Instr.stgParamRd .w4 512 0).wellFormed cfg0 = false ∧ (Instr.stgParamRd .w4 508 0).wellFormed cfg0 = true ∧
    (Instr.stgCodeSt4 0x49000 0).wellFormed cfg0 = false ∧ (Instr.stgCodeSt4 0x48FFC 0).wellFormed cfg0 = true := by decide
theorem test_wf_reg_window_size :
    (Instr.nvmUnmappedRd .w4 0x2C 0).wellFormed { cfg0 with regWinSize := 0x2C } = false ∧
    (Instr.nvmKeyGlobalWr .w4 0).wellFormed { cfg0 with regWinSize := 0x2C } = true := by decide
theorem test_wf_write_data_too_wide :
    (Instr.nvmStatusWr .w1 0x100).wellFormed cfg0 = false ∧ (Instr.nvmStatusWr .w1 0xFF).wellFormed cfg0 = true ∧
    (Instr.uartTxdataWr .w2 0x10000).wellFormed cfg0 = false ∧ (Instr.uartTxdataWr .w2 0xFFFF).wellFormed cfg0 = true := by
  decide
theorem test_wf_read_data_not_zero :
    (Instr.nvmStatusRd .w4 1).wellFormed cfg0 = false ∧ (Instr.anyW8 .reg .rd 0 1).wellFormed cfg0 = false ∧
    (Instr.anyW8 .reg .wr 0 1).wellFormed cfg0 = true := by decide
theorem test_wf_narrow_trigger :
    (Instr.nvmOpPageerase .w2).wellFormed cfg0 = false ∧ (Instr.nvmOpPageerase .w4).wellFormed cfg0 = true ∧
    (Instr.nvmOpUnimplF .w1).wellFormed cfg0 = false := by decide
theorem test_wf_badmagic_with_magic :
    (Instr.nvmOpBadmagic .w4 0x57AF6C02).wellFormed cfg0 = false ∧
    (Instr.nvmOpBadmagic .w4 0x57AF6C10).wellFormed cfg0 = true := by decide
theorem test_wf_unmapped_reg_with_register :
    (Instr.nvmUnmappedRd .w1 0x20 0).wellFormed cfg0 = false ∧ (Instr.nvmUnmappedWr .w1 0x04 0).wellFormed cfg0 = false ∧
    (Instr.nvmUnmappedRd .w1 0x23 0).wellFormed cfg0 = true := by decide
theorem test_wf_unmapped_uart_with_register :
    (Instr.uartUnmappedRd .w1 0x14 0).wellFormed cfg0 = false ∧ (Instr.uartUnmappedWr .w1 0x18 0).wellFormed cfg0 = false ∧
    (Instr.uartUnmappedWr .w1 0x04 0).wellFormed cfg0 = true := by decide
theorem test_wf_staging_alignment :
    (Instr.stgCodeSt4 0x102 0).wellFormed cfg0 = false ∧ (Instr.stgParamSt4 1 0).wellFormed cfg0 = false ∧
    (Instr.stgCodeStMisaligned 0x100 0).wellFormed cfg0 = false ∧
    (Instr.stgParamStMisaligned 0 0).wellFormed cfg0 = false := by decide
theorem test_wf_badwidth_of_four :
    (Instr.stgCodeWrBadwidth .w4 0 0).wellFormed cfg0 = false ∧
    (Instr.stgParamWrBadwidth .w4 0 0).wellFormed cfg0 = false ∧
    (Instr.stgParamWrBadwidth .w2 0 0).wellFormed cfg0 = true := by decide

/-! Decoding: every constructor, by a word of 95_test_vectors.md or one written out from R70's fields -/

theorem test_decode_status_and_width8 :
    decode 0x1800000000000000 = .anyW8 .reg .rd 0 0 ∧ decode 0xF8000000000000FF = .anyW8 .param .wr 0 0xFF ∧
    decode 0x1000000000000000 = .nvmStatusRd .w4 0 ∧ decode 0x0000000000000000 = .nvmStatusRd .w1 0 ∧
    decode 0x30000000FFFFFFFD = .nvmStatusWr .w4 0xFFFFFFFD ∧ decode 0x2000000000000000 = .nvmStatusWr .w1 0 := by decide
theorem test_decode_operations :
    decode 0x3000000457AF6C02 = .nvmOpBuferase .w4 ∧ decode 0x3000000457AF6C0A = .nvmOpPageerase .w4 ∧
    decode 0x3000000457AF6C04 = .nvmOpProg4 .w4 ∧ decode 0x3000000457AF6C05 = .nvmOpProg5 .w4 ∧
    decode 0x3000000457AF6C0C = .nvmOpProgC .w4 ∧ decode 0x3000000457AF6C0E = .nvmOpProgE .w4 := by decide
theorem test_decode_unimplemented_low :
    decode 0x3000000457AF6C00 = .nvmOpUnimpl0 .w4 ∧ decode 0x3000000457AF6C01 = .nvmOpUnimpl1 .w4 ∧
    decode 0x3000000457AF6C03 = .nvmOpUnimpl3 .w4 ∧ decode 0x3000000457AF6C06 = .nvmOpUnimpl6 .w4 ∧
    decode 0x3000000457AF6C07 = .nvmOpUnimpl7 .w4 := by decide
theorem test_decode_unimplemented_high :
    decode 0x3000000457AF6C08 = .nvmOpUnimpl8 .w4 ∧ decode 0x3000000457AF6C09 = .nvmOpUnimpl9 .w4 ∧
    decode 0x3000000457AF6C0B = .nvmOpUnimplB .w4 ∧ decode 0x3000000457AF6C0D = .nvmOpUnimplD .w4 ∧
    decode 0x3000000457AF6C0F = .nvmOpUnimplF .w4 := by decide
theorem test_decode_bad_magic :
    decode 0x3000000412345678 = .nvmOpBadmagic .w4 0x12345678 ∧ decode 0x3000000457AF6C10 = .nvmOpBadmagic .w4 0x57AF6C10 ∧
    decode 0x2800000400006C0A = .nvmOpBadmagic .w2 0x6C0A := by decide
theorem test_decode_keys :
    decode 0x30000020AA55AA55 = .nvmKeyRegionWr .w4 0xAA55AA55 ∧ decode 0x3000002455AA55AA = .nvmKeyParamWr .w4 0x55AA55AA ∧
    decode 0x30000028A5A55A5A = .nvmKeyGlobalWr .w4 0xA5A55A5A ∧ decode 0x280000200000AA55 = .nvmKeyRegionWr .w2 0xAA55 := by
  decide
theorem test_decode_write_only_reads :
    decode 0x1000000400000000 = .nvmWoRd04 .w4 0 ∧ decode 0x1000002000000000 = .nvmWoRd20 .w4 0 ∧
    decode 0x1000002400000000 = .nvmWoRd24 .w4 0 ∧ decode 0x1000002800000000 = .nvmWoRd28 .w4 0 := by decide
theorem test_decode_unmapped_reg :
    decode 0x1000001000000000 = .nvmUnmappedRd .w4 0x10 0 ∧ decode 0x0000000300000000 = .nvmUnmappedRd .w1 0x03 0 ∧
    decode 0x3000002C00000001 = .nvmUnmappedWr .w4 0x2C 1 := by decide
theorem test_decode_uart :
    decode 0x5000000000000000 = .uartStatusRd .w4 0 ∧ decode 0x7000000000000004 = .uartStatusWr .w4 4 ∧
    decode 0x4000001400000000 = .uartRxdataRd .w1 0 ∧ decode 0x7000001800000141 = .uartTxdataWr .w4 0x141 ∧
    decode 0x7000001400000055 = .uartRxdataWr .w4 0x55 ∧ decode 0x5000001800000000 = .uartTxdataRd .w4 0 ∧
    decode 0x5000000400000000 = .uartUnmappedRd .w4 0x04 0 ∧ decode 0x6000001500000001 = .uartUnmappedWr .w1 0x15 1 := by
  decide
theorem test_decode_staging_code :
    decode 0xB000010011223344 = .stgCodeSt4 0x100 0x11223344 ∧ decode 0xB0048FFCCAFEBABE = .stgCodeSt4 0x48FFC 0xCAFEBABE ∧
    decode 0xB000010211223344 = .stgCodeStMisaligned 0x102 0x11223344 ∧
    decode 0xA800000000001122 = .stgCodeWrBadwidth .w2 0 0x1122 ∧ decode 0x9000010000000000 = .stgCodeRd .w4 0x100 0 := by
  decide
theorem test_decode_staging_param :
    decode 0xF00001FCCAFEF00D = .stgParamSt4 0x1FC 0xCAFEF00D ∧ decode 0xF000000100000000 = .stgParamStMisaligned 1 0 ∧
    decode 0xE000000000000011 = .stgParamWrBadwidth .w1 0 0x11 ∧ decode 0xE800000000001122 = .stgParamWrBadwidth .w2 0 0x1122 ∧
    decode 0xD000000000000000 = .stgParamRd .w4 0 0 := by decide
/-- The host's numbering of a descriptor's bits is R70's. -/
theorem test_decode_table_word :
    decodeTableWord 64 0x2000000457AF6C02 = some (.nvmOpBuferase .w1) ∧ decodeTableWord 64 (2 ^ 64) = none := by decide
/-- The textual form of R78 and the first word of the pseudo-transaction STAGEPAGE (S3). -/
theorem test_assembler :
    txnText (st32 .code 0x48FFC 0xCAFEBABE) = "ST32 CODE+0x48FFC, 0xCAFEBABE" ∧ txnText (ld32 .uart 0x14) = "LD32 UART+0x14" ∧
    (pseudoStagepage .param 0 (BitVec.ofNat 8)).head? = some (st32 .param 0 0x00010203) ∧
    (pseudoStagepage .param 0 (BitVec.ofNat 8)).getLast? = some (st32 .param 0x1FC 0xFCFDFEFF) := by decide +kernel

/-! Single steps: the dispatcher (95, 2.1) -/

/-- D15v: `refuse(WIDTH8)` sets the mark; the guest does not go on. -/
theorem test_width8 :
    runs 0x1800000000000000 clean (fun t => t.refusalMark && t.response == .refuse .width8 && t.index == 0) = true := by
  decide +kernel
/-- D1v, D3v. -/
theorem test_nvm_status_rd :
    runs 0x1000000000000000 { clean with eint := true } (fun t => t.response == .value .w4 2 && t.eint) = true ∧
    runs 0x0000000000000000 { clean with eint := true } (fun t => t.response == .value .w1 2) = true := by decide +kernel
/-- D5v, D6v, D8v. -/
theorem test_nvm_status_wr :
    runs 0x3000000000000002 { clean with eint := true } (fun t => t.eint) = true ∧
    runs 0x3000000000000002 clean (fun t => !t.eint) = true ∧
    runs 0x30000000FFFFFFFD { clean with eint := true } (fun t => !t.eint && t.response == .done) = true := by decide +kernel
/-- D11v: offset 0x03 is not NVM_STATUS. -/
theorem test_nvm_unmapped_rd :
    runs 0x0000000300000000 { clean with eint := true } (fun t => t.response == .rejectValue .unmappedRead .w1 0 &&
      t.log == [⟨.unmappedRead, .reg, 0x03, .w1, 0⟩]) = true := by decide +kernel
/-- D12v. -/
theorem test_nvm_unmapped_wr :
    runs 0x3000002C00000001 clean (fun t => t.response == .reject .unmappedWrite && same t clean) = true := by
  decide +kernel
/-- D14v: no operation runs. -/
theorem test_wo_rd_04 :
    runs 0x1000000400000000 valid (fun t => t.response == .rejectValue .unmappedRead .w4 0 && !t.eint) = true := by
  decide +kernel
/-- D13v: the key is not revealed. -/
theorem test_wo_rd_keys :
    runs 0x1000002000000000 u (fun t => t.response == .rejectValue .unmappedRead .w4 0) = true ∧
    runs 0x1000002400000000 u (fun t => t.response == .rejectValue .unmappedRead .w4 0) = true ∧
    runs 0x1000002800000000 u (fun t => t.response == .rejectValue .unmappedRead .w4 0) = true := by decide +kernel
/-- D16v: the data does not fit one byte. -/
theorem test_ill_formed_descriptor :
    runs 0x2000000000000100 { clean with eint := true }
      (fun t => t.refusalMark && t.response == .refuse .descriptor && t.eint) = true := by decide +kernel

/-! Keys (95, 2.2) -/

/-- S1, K4, K5, K6. -/
theorem test_key_region :
    runs 0x30000020AA55AA55 clean (fun t => t.unlockMask == 0b001) = true ∧
    runs 0x280000200000AA55 u (fun t => t.unlockMask == 0b110) = true ∧
    runs 0x30000020AA55AA54 u (fun t => t.unlockMask == 0b110 && t.log.isEmpty) = true ∧
    runs 0x3000002000000000 u (fun t => t.unlockMask == 0b110) = true := by decide +kernel
/-- K3: another key's sentinel clears the param key. -/
theorem test_key_param :
    runs 0x3000002455AA55AA clean (fun t => t.unlockMask == 0b010) = true ∧
    runs 0x30000024AA55AA55 u (fun t => t.unlockMask == 0b101) = true := by decide +kernel
/-- K1's first write. -/
theorem test_key_global :
    runs 0x30000028A5A55A5A clean (fun t => t.unlockMask == 0b100 && t.response == .done) = true ∧
    runs 0x30000028A5A55A5A { u with keyGlobal := false } (fun t => t.unlocked) = true := by decide +kernel

/-! Staging (95, 2.3) -/

/-- P2v: the bytes are taken modulo 512, most significant first. -/
theorem test_stg_code_st4 :
    runs 0xB0000300AABBCCDD u (fun t => t.pagebuf[0x100] == 0xAA && t.pagebuf[0x101] == 0xBB && t.pagebuf[0x102] == 0xCC &&
      t.pagebuf[0x103] == 0xDD && t.pagebuf[0x104] == 0x04 && t.pagebuf[0xFF] == 0xFF &&
      t.stgRegion == some .userCode && t.stgAddr == 0x300) = true := by decide +kernel
/-- P4v: dropped while locked. -/
theorem test_stg_code_st4_locked :
    runs 0xB000010011223344 clean (fun t => t.response == .drop && same t clean && t.log.isEmpty) = true := by
  decide +kernel
/-- P3v: the last word of UserParam. -/
theorem test_stg_param_st4 :
    runs 0xF00001FCCAFEF00D u (fun t => t.pagebuf[0x1FC] == 0xCA && t.pagebuf[0x1FF] == 0x0D && t.pagebuf[0] == 0 &&
      t.stgRegion == some .userParam && t.stgAddr == 0x1FC) = true := by decide +kernel
/-- P13v: with a larger region the pointer keeps the whole offset. -/
theorem test_stg_param_st4_second_page :
    runs 0xF000020401020304 { u with cfg := { cfg0 with paramSize := 1024 } }
      (fun t => t.pagebuf[4] == 1 && t.pagebuf[7] == 4 && t.stgAddr == 0x204) = true := by decide +kernel
/-- P8v, P9v. -/
theorem test_stg_code_misaligned :
    runs 0xB000010211223344 u (fun t => t.refusalMark && t.response == .refuse .misalignedStage) = true ∧
    runs 0xB000010211223344 clean (fun t => t.refusalMark && same t clean) = true := by decide +kernel
/-- R143 for the other window. -/
theorem test_stg_param_misaligned :
    runs 0xF000000111223344 u (fun t => t.refusalMark && t.response == .refuse .misalignedStage) = true := by decide +kernel
/-- P6v, P7v: the pointer is not updated. -/
theorem test_stg_param_badwidth :
    runs 0xE000000000000011 valid (fun t => t.response == .dropBus 7 && same t valid) = true ∧
    runs 0xE800000000001122 valid (fun t => same t valid && t.log.isEmpty) = true := by decide +kernel
/-- R144 for the other window. -/
theorem test_stg_code_badwidth :
    runs 0xA000000000000011 valid (fun t => t.response == .dropBus 7 && same t valid) = true := by decide +kernel
/-- P10v, P11v: some value, and no change. -/
theorem test_stg_reads :
    runs 0x9000010000000000 valid (fun t => same t valid && t.index == 1) = true ∧
    runs 0xD000000000000000 valid (fun t => same t valid && t.index == 1) = true := by decide +kernel

/-! Operations (95, 2.4) -/

/-- O2, O15. -/
theorem test_bad_magic :
    runs 0x3000000457AF6C10 valid (fun t => t.response == .reject .badMagic && same t valid) = true ∧
    runs 0x2800000400006C0A valid (fun t => t.response == .reject .badMagic) = true := by decide +kernel
/-- O3, O14: the unlock state comes before the dispatch. -/
theorem test_locked :
    runs 0x3000000457AF6C04 { valid with keyGlobal := false } (fun t => t.response == .reject .opLocked) = true ∧
    runs 0x3000000457AF6C03 { valid with keyParam := false } (fun t => t.response == .reject .opLocked) = true := by
  decide +kernel
/-- O5, S5, O6, O7. -/
theorem test_bad_target :
    runs 0x3000000457AF6C02 u (fun t => t.response == .reject .opBadRegion) = true ∧
    runs 0x3000000457AF6C0A (at_ .userCode 0x50000) (fun t => t.response == .reject .opOutOfRange && !t.eint) = true ∧
    runs 0x3000000457AF6C0A (at_ .userParam 0x200) (fun t => t.response == .reject .opOutOfRange) = true ∧
    runs 0x3000000457AF6C04 (at_ .userCode 0x49000) (fun t => t.response == .reject .opOutOfRange) = true := by decide +kernel
/-- S2, O9. -/
theorem test_buferase :
    runs 0x3000000457AF6C02 valid (fun t => t.pagebuf[0] == 0xFF && t.pagebuf[0x100] == 0xFF && t.pagebuf[511] == 0xFF && t.eint && t.storageCode.isEmpty &&
      t.stgAddr == 0x100 && t.unlocked) = true := by decide +kernel
/-- O10: page 0x200 of a written storage is erased, its neighbours stay. -/
theorem test_pageerase :
    runs 0x3000000457AF6C0A { at_ .userCode 0x304 with storageCode := [(0x1FF, 1), (0x200, 0), (0x3FF, 0), (0x400, 2)] }
      (fun t => t.storageCode == [(0x1FF, 1), (0x400, 2)] && t.eint && t.pagebuf[3] == 3) = true := by decide +kernel
/-- O8: the last page is in range. -/
theorem test_pageerase_last_page :
    runs 0x3000000457AF6C0A { at_ .userCode 0x48FFC with storageCode := [(0x48DFF, 0), (0x48FFF, 0)] }
      (fun t => t.storageCode == [(0x48DFF, 0)] && t.eint) = true := by decide +kernel
/-- S3, O12: the buffer is copied, over bytes that were 0 before. -/
theorem test_prog_4 :
    runs 0x3000000457AF6C04 { at_ .userParam 0x1FC with storageParam := [(0, 0), (1, 0), (511, 0)] }
      programmed = true := by
  decide +kernel
/-- O12, each of the other three. -/
theorem test_prog_5 :
    runs 0x3000000457AF6C05 (at_ .userParam 0)
      programmed = true := by decide +kernel
theorem test_prog_c :
    runs 0x3000000457AF6C0C (at_ .userParam 0)
      programmed = true := by decide +kernel
theorem test_prog_e :
    runs 0x3000000457AF6C0E (at_ .userParam 0)
      programmed = true := by decide +kernel
/-- O13. -/
theorem test_unimplemented :
    ([0, 1, 3, 6, 7, 8, 9, 0xB, 0xD, 0xF] : List Descriptor).all (fun n =>
      runs (0x3000000457AF6C00 + n) valid (fun t => t.response == .reject .opUnimplemented && same t valid &&
        t.log.length == 1)) = true := by decide +kernel

/-! The UART (95, 2.5) -/

/-- A1, A2. -/
theorem test_uart_status_rd :
    runs 0x5000000000000000 uartBusy (fun t => t.response == .value .w4 6 && t.rxr && t.txs) = true ∧
    runs 0x4000000000000000 { uartBusy with txs := false } (fun t => t.response == .value .w1 2 && t.rxr) = true := by
  decide +kernel
/-- A4, A5, A6. -/
theorem test_uart_status_wr :
    runs 0x7000000000000004 uartBusy (fun t => t.txs) = true ∧ runs 0x7000000000000004 clean (fun t => !t.txs) = true ∧
    runs 0x7000000000000002 uartBusy (fun t => !t.txs && t.rxr) = true := by decide +kernel
/-- A15, and A8's second read. -/
theorem test_uart_rxdata_rd :
    runs 0x4000001400000000 uartBusy (fun t => t.response == .value .w1 0x41 && !t.rxr) = true ∧
    runs 0x5000001400000000 { uartBusy with rxr := false } (fun t => t.response == .value .w4 0x41 && !t.rxr) = true := by
  decide +kernel
/-- A7. -/
theorem test_uart_txdata_wr :
    runs 0x7000001800000141 clean (fun t => t.txs && t.txOut == [0x41] && t.response == .done && t.index == 1) = true := by
  decide +kernel
/-- A10. -/
theorem test_uart_txdata_wr_holds :
    runs 0x7000001800000041 { clean with txReady := false }
      (fun t => !t.txs && t.txOut.isEmpty && t.response == .hold && t.index == 0) = true := by decide +kernel
/-- A13. -/
theorem test_uart_rxdata_wr :
    runs 0x7000001400000055 uartBusy (fun t => t.response == .reject .unmappedWrite && same t uartBusy) = true := by
  decide +kernel
/-- A14. -/
theorem test_uart_txdata_rd :
    runs 0x5000001800000000 clean (fun t => t.response == .rejectValue .unmappedRead .w4 0 && t.txOut.isEmpty) = true := by
  decide +kernel
/-- A12. -/
theorem test_uart_unmapped :
    runs 0x5000000400000000 clean (fun t => t.response == .rejectValue .unmappedRead .w4 0) = true ∧
    runs 0x6000001500000001 uartBusy (fun t => t.response == .reject .unmappedWrite && same t uartBusy) = true := by
  decide +kernel

/-! The other agents (95, S6, A9, 2.6) -/

/-- S6's first step. -/
theorem test_rx_deliver :
    steps { clean with schedule := [.rxDeliver 0x41] } (fun t => t.rxByte == 0x41 && t.rxr && t.schedule.isEmpty) = true := by
  decide +kernel
/-- A9: over an unread byte there is no such step, and the channel keeps its byte. -/
theorem test_rx_deliver_refused :
    steps { uartBusy with schedule := [.rxDeliver 0x42] }
      (fun t => t.rxByte == 0x41 && t.rxr && t.schedule == [.rxDeliver 0x42]) = true := by decide +kernel
/-- R2v. -/
theorem test_reset :
    steps { u with eint := true, storageParam := [(0, 0)], schedule := [.reset] }
      (fun t => t.unlockMask == 0 && !t.eint && t.storageParam == [(0, 0)]) = true := by decide +kernel
/-- A waiting transmit completes when the TX channel becomes ready (R197). -/
theorem test_hold_then_accept :
    steps { clean with txReady := false, response := .hold, program := [0x7000001800000041], schedule := [.reset, .txReady true] }
      (fun t => t.txReady && t.schedule == [.reset] && steps t (fun v => v.keyRegion == false && v.txOut == [0x41])) = true := by
  decide +kernel
/-- The host's preload and the storage read port (R55, R251). -/
theorem test_preload :
    (clean.preload .userParam [1, 2]).storeRead .userParam 1 = some 2 ∧
    (clean.preload .userParam [1, 2]).storeRead .userParam 2 = some 0xFF ∧ clean.storeRead .userParam 512 = none ∧
    (clean.preload .userParam [1, 2]).storageParam.wf = true := by decide +kernel
/-- The host's question: the instruction placed at reset is the first one run. -/
theorem test_first_instruction :
    (match step (State.reset.withFetchWord 64 0x3000002055AA55AA) with
      | .next t => t.response == .done && t.index == 1
      | _ => false) = true := by decide +kernel

/-! Witnesses: concrete states and operands that meet the hypotheses of each statement, at the boundaries of each clause -/

/-- The instruction `i` ends in a state that meets `p`. -/
def ends (i : Instr) (s : State) (p : State → Bool) : Bool :=
  match exec i s with
  | .next t => p t
  | _ => false

/-- A step that ends in a state meeting `p`, as the statements say it. -/
theorem steps_next {s : State} {p : State → Bool} (h : steps s p = true) : ∃ t, step s = .next t ∧ p t = true := by
  unfold steps at h
  cases he : step s with
  | next t => rw [he] at h; exact ⟨t, rfl, h⟩
  | fault r => rw [he] at h; cases h
  | refused r => rw [he] at h; cases h

/-- An instruction that ends in a state meeting `p`, as the statements say it. -/
theorem ends_next {i : Instr} {s : State} {p : State → Bool} (h : ends i s p = true) :
    ∃ t, exec i s = .next t ∧ p t = true := by
  unfold ends at h
  cases he : exec i s with
  | next t => rw [he] at h; exact ⟨t, rfl, h⟩
  | fault r => rw [he] at h; cases h
  | refused r => rw [he] at h; cases h

theorem test_witness_EncodeThenDecode :
    (Instr.stgCodeSt4 0x7FFFFFC 0xFFFFFFFF).inRow = true ∧ (Instr.nvmUnmappedRd .w1 0x7FFFFFF 0).inRow = true := by decide
theorem test_witness_NarrowWritesNeverUnlockOrTrigger :
    Width.w2 ≠ .w4 ∧ (Instr.nvmKeyRegionWr .w2 0xFFFF).wellFormed u.cfg = true ∧
    (Instr.nvmKeyParamWr .w1 0xFF).wellFormed u.cfg = true ∧ (Instr.nvmKeyGlobalWr .w2 0).wellFormed u.cfg = true ∧
    (decode 0x280000040000FFFF).wellFormed cfg0 = true ∧ Txn.ofDescriptor 0x280000040000FFFF = ⟨.reg, .wr, .upTo4 .w2, 0x04, 0xFFFF⟩ := by
  decide
theorem test_witness_StepRunsDecodedInstruction :
    (u.withTransaction 0xB0048FFCCAFEBABE).issues (.stgCodeSt4 0x48FFC 0xCAFEBABE) [] :=
  ⟨_, ⟨⟨rfl, rfl⟩, rfl⟩, by decide, by decide⟩
theorem test_witness_IllFormedDescriptorRefused :
    (u.withTransaction 0x2000000000000100).fetches 0x2000000000000100 [] ∧
    (decode 0x2000000000000100).wellFormed (u.withTransaction 0x2000000000000100).cfg = false :=
  ⟨⟨⟨rfl, rfl⟩, rfl⟩, by decide⟩
theorem test_witness_RefusalMarkStopsTheRun :
    ({ u with refusalMark := true } : State).refusalMark = true ∧
    ∃ t, exec (.nvmStatusWr .w4 0) { u with refusalMark := true } = .next t ∧ t.refusalMark = true :=
  ⟨rfl, ends_next (p := fun t => t.refusalMark) (by decide +kernel)⟩
/-- One instruction for each side: refused, holding, and completed. -/
theorem test_witness_TransactionIndexAdvances :
    (∃ t, exec (.anyW8 .reg .rd 0 0) u = .next t ∧ (t.response == .refuse .width8) = true) ∧
    (∃ t, exec (.uartTxdataWr .w4 0) { u with txReady := false } = .next t ∧ (t.response == .hold) = true) ∧
    (∃ t, exec (.nvmStatusRd .w4 0) u = .next t ∧ (t.response == .value .w4 0) = true) :=
  ⟨ends_next (p := fun t => t.response == .refuse .width8) (by decide +kernel),
    ends_next (p := fun t => t.response == .hold) (by decide +kernel),
    ends_next (p := fun t => t.response == .value .w4 0) (by decide +kernel)⟩
theorem test_witness_UnlockDependsOnLastKeyWrites :
    ∃ t, execAll [.nvmKeyGlobalWr .w4 0xA5A55A5A, .nvmStatusRd .w4 0, .nvmKeyGlobalWr .w4 0] clean = .next t ∧
      lastGlobalKey [.nvmKeyGlobalWr .w4 0xA5A55A5A, .nvmStatusRd .w4 0, .nvmKeyGlobalWr .w4 0] = some 0 :=
  ⟨_, rfl, rfl⟩
/-- The first key by a write, the others by RESET. -/
theorem test_witness_KeysChangeOnlyByOwnWrite :
    (∃ t, step (u.withTransaction 0x3000002000000000) = .next t ∧ (t.keyRegion != true) = true) ∧
    (∃ t, step { u with schedule := [.reset] } = .next t ∧ (t.keyParam != true && t.keyGlobal != true) = true) :=
  ⟨steps_next (p := fun t => t.keyRegion != true) (by decide +kernel),
    steps_next (p := fun t => t.keyParam != true && t.keyGlobal != true) (by decide +kernel)⟩
theorem test_witness_LockedStagingDropped :
    ¬(({ u with keyGlobal := false } : State).keyRegion = true ∧ ({ u with keyGlobal := false } : State).keyParam = true ∧
      ({ u with keyGlobal := false } : State).keyGlobal = true) := by decide
/-- The last word of each window. -/
theorem test_witness_AcceptedStagingStore :
    u.keyRegion = true ∧ u.keyParam = true ∧ u.keyGlobal = true ∧ (0x48FFC : Offset).toNat % 4 = 0 ∧
    (0x48FFC : Offset).toNat + 4 ≤ u.cfg.size .userCode ∧ (0x1FC : Offset).toNat + 4 ≤ u.cfg.size .userParam := by decide
/-- The first offset past each window's last word, and the last offset there is; then a well-formed last word. -/
theorem test_witness_StagingBoundsCheck :
    (u.cfg.codeSize < (0x48FFD : Offset).toNat + 4 ∧ u.cfg.codeSize < (0x7FFFFFF : Offset).toNat + 4) ∧
    (u.cfg.paramSize < (0x1FD : Offset).toNat + 4 ∧ u.unlocked = true) ∧
    (cfg0.wf = true ∧ (Instr.stgCodeSt4 0x48FFC 0).wellFormed cfg0 = true ∧ (Instr.stgParamSt4 0x1FC 0).wellFormed cfg0 = true) := by
  decide
/-- By a staging store, by a buffer erase, and by RESET under a staged region. -/
theorem test_witness_StagingStateChangesOnlyAsSaid :
    (∃ t, step (u.withTransaction 0xB0048FFCCAFEBABE) = .next t ∧ (t.stgRegion != u.stgRegion) = true) ∧
    (∃ t, step (valid.withTransaction 0x3000000457AF6C02) = .next t ∧ (t.pagebuf[0] != valid.pagebuf[0]) = true) ∧
    (∃ t, step ({ valid with schedule := [.reset] }) = .next t) :=
  ⟨steps_next (p := fun t => t.stgRegion != u.stgRegion) (by decide +kernel),
    steps_next (p := fun t => t.pagebuf[0] != valid.pagebuf[0]) (by decide +kernel), _, rfl⟩
theorem test_witness_BadMagicRejected :
    (0x57AF6BFF : Word).toNat / 16 ≠ 0x57AF6C0 ∧ (0x57AF6C10 : Word).toNat / 16 ≠ 0x57AF6C0 := by decide
theorem test_witness_LockedTriggerRejected :
    ¬(clean.keyRegion = true ∧ clean.keyParam = true ∧ clean.keyGlobal = true) ∧ Instr.nvmOpUnimplF .w4 ∈ goodTriggers .w4 := by
  decide
theorem test_witness_UnrecognizedRegionRejected :
    (u.keyRegion = true ∧ u.keyParam = true ∧ u.keyGlobal = true ∧ u.stgRegion = none) ∧
    (∃ t, step (valid.withTransaction 0x3000000457AF6C02) = .next t ∧ (t.eint && valid.stgRegion != none) = true) ∧
    (∀ rest, ¬(valid.withTransaction 0x3000000457AF6C02).moves .reset rest) :=
  ⟨by decide, steps_next (p := fun t => t.eint && valid.stgRegion != none) (by decide +kernel),
    fun _ h => by cases h.2⟩
/-- The first page past each region, the last page inside, and a well-formed store into it. -/
theorem test_witness_OutOfRangePageRejected :
    ((at_ .userCode 0x49000).cfg.size .userCode ≤ ((at_ .userCode 0x49000).stgAddr &&& 0xFFFFFE00#32).toNat ∧
      (at_ .userParam 0x200).cfg.size .userParam ≤ ((at_ .userParam 0x200).stgAddr &&& 0xFFFFFE00#32).toNat) ∧
    ((at_ .userCode 0x48FFF).targets .userCode 0x48E00 ∧ cfg0.wf = true) ∧
    (Instr.stgCodeSt4 0x48FFC 0).wellFormed cfg0 = true ∧ (Instr.stgParamSt4 0x1FC 0).wellFormed cfg0 = true :=
  ⟨by decide, ⟨⟨⟨rfl, rfl, rfl⟩, rfl, by decide, by decide⟩, by decide⟩, by decide, by decide⟩
/-- The operations' targets: the last page of UserCode and the only page of UserParam; and states with no target. -/
theorem test_witness_targets :
    ((at_ .userCode 0x48FFF).targets .userCode 0x48E00 ∧ (at_ .userCode 0x48FFF).cfg.wf = true) ∧
    ((at_ .userParam 0x1FC).targets .userParam 0 ∧ (at_ .userParam 0x1FC).cfg.wf = true) ∧
    (∀ r a, ¬clean.targets r a) ∧ ∀ r a, ¬u.targets r a :=
  ⟨⟨⟨⟨rfl, rfl, rfl⟩, rfl, by decide, by decide⟩, by decide⟩, ⟨⟨⟨rfl, rfl, rfl⟩, rfl, by decide, by decide⟩, by decide⟩,
    fun _ _ h => (by cases h.1.1), fun _ _ h => (by cases h.2.1)⟩
/-- A program that changes a byte, and a rejected trigger. -/
theorem test_witness_OperationFrame :
    (Instr.nvmOpProg4 .w4 ∈ goodTriggers .w4 ∧ Instr.nvmOpUnimpl0 .w4 ∈ goodTriggers .w4) ∧
    (∃ t, exec (.nvmOpProg4 .w4) (at_ .userParam 0) = .next t ∧
      (t.storeRead .userParam 0 != (at_ .userParam 0).storeRead .userParam 0) = true) ∧
    (∃ t, exec (.nvmOpUnimpl0 .w4) u = .next t ∧ (t.log.length == 1) = true) :=
  ⟨by decide, ends_next (p := fun t => t.storeRead .userParam 0 != (at_ .userParam 0).storeRead .userParam 0) (by decide +kernel),
    ends_next (p := fun t => t.log.length == 1) (by decide +kernel)⟩
theorem test_witness_StorageChangesOnlyByOperations :
    ∃ t, step ((at_ .userParam 0).withTransaction 0x3000000457AF6C0E) = .next t ∧
      (t.storeRead .userParam 0 != (at_ .userParam 0).storeRead .userParam 0) = true :=
  steps_next (p := fun t => t.storeRead .userParam 0 != (at_ .userParam 0).storeRead .userParam 0) (by decide +kernel)
/-- `eint` rises by a buffer erase, falls by an acknowledge, and falls by RESET. -/
theorem test_witness_EintRisesOnlyByOperation :
    (∃ t, step (valid.withTransaction 0x3000000457AF6C02) = .next t ∧ (!valid.eint && t.eint) = true) ∧
    (∃ t, step ({ clean with eint := true }.withTransaction 0x30000000FFFFFFFD) = .next t ∧ (!t.eint) = true) ∧
    (∃ t, step { clean with eint := true, schedule := [.reset] } = .next t ∧ (!t.eint) = true) :=
  ⟨steps_next (p := fun t => !valid.eint && t.eint) (by decide +kernel), steps_next (p := fun t => !t.eint) (by decide +kernel),
    steps_next (p := fun t => !t.eint) (by decide +kernel)⟩
/-- The last bytes of UserParam, and no bytes at all at its end. -/
theorem test_witness_memWrite :
    ((clean.storage .userParam).wf = true ∧ 510 + [1, 0xFF].length ≤ clean.cfg.size .userParam) ∧
    (512 + ([] : List Byte).length ≤ clean.cfg.size .userParam) ∧
    (clean.memWrite .userParam 510 [1, 0xFF]).isSome = true ∧ (clean.memWrite .userParam 511 [1, 0xFF]).isSome = false := by
  decide +kernel
/-- A preload that fills UserParam past its end: its last byte is taken, and an address past it has none; the state is one of the invariant. -/
theorem test_witness_preload :
    clean.Inv = true ∧ 511 < clean.cfg.size .userParam ∧ Region.userCode ≠ .userParam ∧
    (clean.preload .userParam (List.replicate 513 0x5A)).storeRead .userParam 511 = some 0x5A ∧
    (clean.preload .userParam (List.replicate 513 0x5A)).storeRead .userParam 512 = none ∧
    (clean.preload .userParam [1]).storeRead .userParam 1 = some 0xFF := by decide +kernel
theorem test_witness_Transmit :
    clean.txReady = true ∧ ({ clean with txReady := false } : State).txReady = false := by decide
/-- The precondition named is the first that fails: both a key and the region are missing, the region alone, the page alone. -/
theorem test_failed_precondition :
    clean.failedPrecondition = .opLocked ∧ u.failedPrecondition = .opBadRegion ∧
    (at_ .userParam 0x200).failedPrecondition = .opOutOfRange := by decide
/-- A state that holds, whose schedule has a reset waiting and the guest moving; and a step that changes the channel's readiness. -/
theorem test_witness_TransmitHoldsUntilAccepted :
    ({ clean with response := .hold, schedule := [.reset, .rxDeliver 1] } : State).moves .guest [.reset, .rxDeliver 1] ∧
    ({ clean with response := .hold, schedule := [.reset, .txReady true] } : State).moves (.txReady true) [.reset] ∧
    ∃ t, step { clean with schedule := [.txReady false] } = .next t ∧ (t.txReady != clean.txReady) = true :=
  ⟨⟨rfl, rfl⟩, ⟨rfl, rfl⟩, steps_next (p := fun t => t.txReady != clean.txReady) (by decide +kernel)⟩
theorem test_witness_RxDeliveryStoresByte :
    ({ clean with schedule := [.rxDeliver 0x41] } : State).moves (.rxDeliver 0x41) [] ∧
    clean.refusalMark = false ∧ clean.rxr = false ∧ clean.response ≠ .hold :=
  ⟨⟨rfl, rfl⟩, by decide⟩
/-- A delivery that waits behind an unread byte, and a reset. -/
theorem test_witness_UnreadByteNeverOverwritten :
    (∃ t, step { uartBusy with schedule := [.rxDeliver 0x42] } = .next t ∧ (uartBusy.rxr && t.rxByte == 0x41) = true) ∧
    ({ uartBusy with schedule := [.reset] } : State).moves .reset [] :=
  ⟨steps_next (p := fun t => uartBusy.rxr && t.rxByte == 0x41) (by decide +kernel), ⟨rfl, rfl⟩⟩
theorem test_witness_UartAndControllerIndependent :
    (Instr.stgParamSt4 0 0).txn.win ≠ .uart ∧ (Instr.anyW8 .code .rd 0 0).txn.win ≠ .uart ∧
    (Instr.uartTxdataWr .w4 0).txn.win = .uart ∧ (Instr.anyW8 .uart .rd 0 0).txn.win = .uart := by decide
/-- A rejected write, a rejected read, and a transaction that is not rejected. -/
theorem test_witness_RejectLogsOneEvent :
    (∃ t, exec (.nvmOpPageerase .w4) clean = .next t ∧ (t.response == .reject .opLocked) = true) ∧
    (∃ t, exec (.nvmWoRd20 .w4 0) u = .next t ∧ (t.response == .rejectValue .unmappedRead .w4 0) = true) ∧
    (∃ t, exec (.stgCodeSt4 0 0) clean = .next t ∧ (t.response == .drop) = true) :=
  ⟨ends_next (p := fun t => t.response == .reject .opLocked) (by decide +kernel),
    ends_next (p := fun t => t.response == .rejectValue .unmappedRead .w4 0) (by decide +kernel),
    ends_next (p := fun t => t.response == .drop) (by decide +kernel)⟩
/-- A read, and a write that changes the state: a page program. -/
theorem test_witness_AccessesAreIdempotent :
    ((Instr.stgCodeRd .w4 0 0).txn.dir = .rd ∧ ∃ t, exec (.stgCodeRd .w4 0 0) u = .next t) ∧
    ((Instr.nvmOpProg4 .w4).txn.dir = .wr ∧ ∃ t, exec (.nvmOpProg4 .w4) (at_ .userParam 0) = .next t ∧ t.eint = true) :=
  ⟨⟨rfl, _, rfl⟩, rfl, ends_next (p := fun t => t.eint) (by decide +kernel)⟩
theorem test_witness_BytesAreBigEndian :
    (0xFF : Word).toNat < 2 ^ (8 * widthBytes .w1) ∧ (0xFFFF : Word).toNat < 2 ^ (8 * widthBytes .w2) ∧
    (0xFFFFFFFF : Word).toNat < 2 ^ (8 * widthBytes .w4) ∧ responseBytes (.value .w2 0xAA55) = [0xAA, 0x55] := by decide
theorem test_witness_CreatedBlockIsLockedAndErased :
    0 < cfg0.size .userCode ∧ 0x48FFF < cfg0.size .userCode ∧ 511 < cfg0.size .userParam := by decide
theorem test_witness_ResetClearsKeysAndEint :
    ({ u with schedule := [.txReady false, .reset] } : State).moves (.txReady false) [.reset] ∧
    ({ u with eint := true, schedule := [.reset] } : State).moves .reset [] := ⟨⟨rfl, rfl⟩, ⟨rfl, rfl⟩⟩
/-- A state of the invariant that a page program leaves, at the last index of its program. -/
theorem test_witness_Invariant :
    ((at_ .userParam 0).withTransaction 0x3000000457AF6C04).Inv = true ∧ (at_ .userParam 0).refusalMark = false ∧
    ∃ t, step ((at_ .userParam 0).withTransaction 0x3000000457AF6C04) = .next t ∧ t.Inv = true :=
  ⟨by decide +kernel, rfl, steps_next (p := fun t => t.Inv) (by decide +kernel)⟩

end Sys2Proof.Tests
end

/-! PROOFS. The rules of one step and of a MemWrite, the machine's invariant, and the statements of 00_scope.md that they settle. -/

namespace Sys2Proof.Machine

/-! The rules of a step: which function each move runs (R9, R61, R71) -/

/-- A step of a run that goes on is the picked agent's move, with that move taken off the schedule. -/
theorem step_of_moves {s : State} {m : Move} {rest : List Move} (h : s.moves m rest) :
    step s = runMove m (s.withSchedule rest) := by
  obtain ⟨hmark, hpick⟩ := h
  rw [step, hmark, agentStep, hpick]
  rfl

/-- A guest with no transaction left waits (R253). -/
theorem guestMove_of_fetch_none {s : State} (h : s.fetch = none) : guestMove s = .next s := by
  rw [guestMove, h]

/-- A guest whose next word is well-formed runs the instruction it decodes to. -/
theorem guestMove_of_wellFormed {s : State} {w : Descriptor} (h : s.fetch = some w)
    (hw : (decode w).wellFormed s.cfg = true) : guestMove s = exec (decode w) s := by
  simp only [guestMove, h, decodeChecked, hw, if_true]

/-- A guest whose next word is ill-formed is refused, whatever the word decodes to (R71, R225). -/
theorem guestMove_of_illFormed {s : State} {w : Descriptor} (h : s.fetch = some w)
    (hw : (decode w).wellFormed s.cfg = false) : guestMove s = .next (s.refuse .descriptor) := by
  simp only [guestMove, h, decodeChecked, hw, Bool.false_eq_true, if_false]

/-- A guest that fetches a word stands at a transaction of its program. -/
theorem State.index_lt_of_fetch {s : State} {w : Descriptor} (h : s.fetch = some w) : s.index < s.program.length :=
  (List.getElem?_eq_some_iff.1 h).1

/-- Settles O8: the guest's move of a well-formed word is `exec` of the instruction it decodes to. -/
theorem stepRunsDecodedInstruction : Obligations.StepRunsDecodedInstruction := by
  rintro s i rest ⟨w, ⟨hmoves, hfetch⟩, rfl, hwf⟩
  rw [step_of_moves hmoves]
  exact guestMove_of_wellFormed hfetch hwf

/-! The rules of storage: writing a region's array twice, writing a list in two parts, and what the read port shows (R12, R55) -/

/-- Of two replacements of one region's array the second stands. -/
@[simp] theorem State.setStorage_setStorage (s : State) (r : Region) (m m' : Memory) :
    (s.setStorage r m).setStorage r m' = s.setStorage r m' := by
  cases r <;> rfl

/-- Writing no bytes changes no canonical array. -/
theorem Memory.put_nil {m : Memory} (a : Nat) (hm : m.wf = true) : m.put a [] = m :=
  Memory.ext_wf (Memory.put_wf a [] hm) hm fun x => by
    rw [Memory.get_put, List.length_nil, if_neg (by omega)]

/-- Writing a list is writing its first part and then, behind it, the rest. -/
theorem Memory.put_append {m : Memory} (a : Nat) (bs cs : List Byte) (hm : m.wf = true) :
    m.put a (bs ++ cs) = (m.put a bs).put (a + bs.length) cs := by
  refine Memory.ext_wf (Memory.put_wf _ _ hm) (Memory.put_wf _ _ (Memory.put_wf _ _ hm)) fun x => ?_
  simp only [Memory.get_put, List.length_append]
  by_cases hb : a ≤ x ∧ x < a + bs.length
  · rw [if_pos (by omega), if_neg (by omega), if_pos hb, List.getD_append _ _ _ _ (by omega)]
  · rw [if_neg hb]
    by_cases hc : a + bs.length ≤ x ∧ x < a + bs.length + cs.length
    · rw [if_pos (by omega), if_pos hc, List.getD_append_right _ _ _ _ (by omega), Nat.sub_add_eq]
    · rw [if_neg (by omega), if_neg hc]

/-- A MemWrite of no bytes in bounds changes nothing. -/
theorem State.memWrite_nil {s : State} {r : Region} {a : Nat} (hw : (s.storage r).wf = true)
    (ha : a ≤ s.cfg.size r) : s.memWrite r a [] = some s := by
  rw [State.memWrite, if_pos (by simpa using ha), Memory.put_nil a hw, State.setStorage_self]

/-- A MemWrite of a list is the MemWrite of its first part and then, behind it, of the rest; both are out of bounds together. -/
theorem State.memWrite_append {s : State} {r : Region} (a : Nat) (bs cs : List Byte) (hw : (s.storage r).wf = true) :
    s.memWrite r a (bs ++ cs) = (s.memWrite r a bs).bind fun u => u.memWrite r (a + bs.length) cs := by
  rcases s.memWrite_eq r a bs with ⟨-, he⟩ | ⟨hout, he⟩ <;> rw [he]
  · simp only [Option.bind_some, State.memWrite, State.setStorage_cfg, State.setStorage_storage, if_true,
      State.setStorage_setStorage, List.length_append, Nat.add_assoc, Memory.put_append a bs cs hw]
  · exact if_neg (by rw [List.length_append]; omega)

/-- The first `n` rounds of the pseudocode's byte loop are the one MemWrite of the first `n` bytes. -/
theorem State.byteLoop_take {s : State} {r : Region} {a : Nat} {bs : List Byte} (hw : (s.storage r).wf = true)
    (hin : a + bs.length ≤ s.cfg.size r) {n : Nat} (hn : n ≤ bs.length) :
    (List.range n).foldlM (fun (u : State) k => u.memWrite r (a + k) [bs.getD k 0]) s =
      s.memWrite r a (bs.take n) := by
  induction n with
  | zero => exact (State.memWrite_nil hw (by omega)).symm
  | succ n ih =>
    have hlen : (bs.take n).length = n := List.length_take_of_le (by omega)
    have hget : bs.getD n 0 = bs[n] := List.getD_eq_getElem _ _ hn
    rw [List.range_succ, List.foldlM_append, ih (by omega), List.take_succ_eq_append_getElem hn,
      State.memWrite_append a _ _ hw, hlen]
    simp only [List.foldlM_cons, List.foldlM_nil, hget]
    exact Option.bind_congr fun u _ => bind_pure _

/-- Settles O39, by induction on the rounds of the loop. -/
theorem byteLoopIsOneMemWrite : Obligations.ByteLoopIsOneMemWrite := by
  intro s r a bs hw hin
  rw [State.byteLoop_take hw hin le_rfl, List.take_length]

/-- What the read port shows after a region's array is replaced. -/
theorem State.setStorage_storeRead (s : State) (r q : Region) (m : Memory) (x : Nat) :
    (s.setStorage r m).storeRead q x =
      if q = r then (if x < s.cfg.size r then some (m.get x) else none) else s.storeRead q x := by
  rw [State.storeRead, State.setStorage_cfg, State.setStorage_storage]
  by_cases hq : q = r
  · rw [hq, if_pos rfl, if_pos rfl]
  · rw [if_neg hq, if_neg hq, State.storeRead]

/-- What the read port shows after a MemWrite: the bytes written where they were written, the old bytes elsewhere. -/
theorem State.memWrite_storeRead {s t : State} {r : Region} {a : Nat} {bs : List Byte}
    (h : s.memWrite r a bs = some t) (q : Region) (x : Nat) :
    t.storeRead q x = if q = r ∧ a ≤ x ∧ x < a + bs.length then bs[x - a]? else s.storeRead q x := by
  rcases s.memWrite_eq r a bs with ⟨hin, he⟩ | ⟨-, he⟩ <;> rw [he] at h <;> cases h
  rw [State.setStorage_storeRead, Memory.get_put]
  by_cases hq : q = r
  · subst hq
    by_cases hx : a ≤ x ∧ x < a + bs.length
    · rw [if_pos rfl, if_pos (by omega), if_pos hx, if_pos ⟨rfl, hx⟩, List.getD_eq_getElem _ _ (by omega),
        List.getElem?_eq_getElem]
    · rw [if_pos rfl, if_neg hx, if_neg fun h : q = q ∧ _ => hx h.2, State.storeRead]
  · rw [if_neg hq, if_neg fun h => hq h.1]

/-- A preload changes no configuration. -/
@[simp] theorem State.preload_cfg (s : State) (r : Region) (bs : List Byte) : (s.preload r bs).cfg = s.cfg :=
  s.setStorage_cfg r _

/-! The invariant (R7, R21, R27, R175) -/

/-- The invariant, region by region. -/
theorem State.inv_iff (s : State) : s.Inv = true ↔
    s.cfg.wf = true ∧ (∀ r, (s.storage r).wf = true ∧ (s.storage r).within (s.cfg.size r) = true) ∧
      s.index ≤ s.program.length := by
  simp only [State.Inv, Bool.and_eq_true, decide_eq_true_eq]
  constructor
  · rintro ⟨⟨⟨⟨⟨hcfg, hcodeWf⟩, hparamWf⟩, hcodeIn⟩, hparamIn⟩, hidx⟩
    refine ⟨hcfg, fun r => ?_, hidx⟩
    cases r
    · exact ⟨hcodeWf, hcodeIn⟩
    · exact ⟨hparamWf, hparamIn⟩
  · rintro ⟨hcfg, hmem, hidx⟩
    obtain ⟨hcodeWf, hcodeIn⟩ := hmem .userCode
    obtain ⟨hparamWf, hparamIn⟩ := hmem .userParam
    exact ⟨⟨⟨⟨⟨hcfg, hcodeWf⟩, hparamWf⟩, hcodeIn⟩, hparamIn⟩, hidx⟩

/-- The invariant passes to a state of the same configuration whose arrays are the old ones or are canonical and inside their regions. -/
theorem State.inv_of_storage {s t : State} (hs : s.Inv = true) (hcfg : t.cfg = s.cfg)
    (hmem : ∀ q, t.storage q = s.storage q ∨
      (t.storage q).wf = true ∧ (t.storage q).within (s.cfg.size q) = true)
    (hidx : t.index ≤ t.program.length) : t.Inv = true := by
  obtain ⟨hwf, hold, -⟩ := s.inv_iff.1 hs
  refine t.inv_iff.2 ⟨hcfg ▸ hwf, fun q => ?_, hidx⟩
  rw [hcfg]
  rcases hmem q with he | hnew
  · rw [he]; exact hold q
  · exact hnew

@[simp] theorem State.withSchedule_inv (s : State) (rest : List Move) : (s.withSchedule rest).Inv = s.Inv := rfl
@[simp] theorem State.refuse_inv (s : State) (r : RefuseReason) : (s.refuse r).Inv = s.Inv := rfl
@[simp] theorem rxDeliver_inv (b : Byte) (s : State) : (rxDeliver b s).Inv = s.Inv := rfl
@[simp] theorem resetBlock_inv (s : State) : (resetBlock s).Inv = s.Inv := by
  simp [State.Inv]

/-- A preload keeps the invariant: the array it leaves is canonical and inside its region (R251, log 12). -/
theorem State.preload_inv {s : State} (r : Region) (bs : List Byte) (hs : s.Inv = true) :
    (s.preload r bs).Inv = true := by
  obtain ⟨-, -, hidx⟩ := s.inv_iff.1 hs
  refine State.inv_of_storage hs (s.preload_cfg r bs) (fun q => ?_) ?_
  · by_cases hq : q = r
    · subst hq; exact .inr ⟨s.preload_wf q bs, s.preload_within q bs⟩
    · exact .inl (s.preload_other bs hq)
  · rwa [State.preload, State.setStorage_index, State.setStorage_program]

/-- Settles O40: the read port after a MemWrite, and after a preload, which replaces one region's array. -/
theorem storeReadAfterMemWrite : Obligations.StoreReadAfterMemWrite := by
  refine ⟨fun s t r a bs h q x => State.memWrite_storeRead h q x, fun s r bs => ⟨fun x => ?_, fun q x hq => ?_, ?_, ?_⟩⟩
  · rw [State.storeRead, State.preload_cfg]
    by_cases hx : x < s.cfg.size r
    · rw [if_pos hx, if_pos hx, s.preload_get r bs hx, erased]
    · rw [if_neg hx, if_neg hx]
  · rw [State.preload, State.setStorage_storeRead, if_neg hq]
  · rw [State.preload, State.setStorage_setStorage, State.setStorage_self]
  · exact State.preload_inv r bs

/-! What every effect of an instruction leaves, and where it may write -/

/-- No instruction changes the configuration (R7). -/
theorem Effect.cfg_eq {i : Instr} {s t : State} (h : Effect i s t) : t.cfg = s.cfg := by
  cases h with
  | pageWrite => rw [State.opDone_cfg, State.setStorage_cfg]
  | _ => rfl

/-- No instruction changes the guest's program. -/
theorem Effect.program_eq {i : Instr} {s t : State} (h : Effect i s t) : t.program = s.program := by
  cases h with
  | pageWrite => rw [State.opDone_program, State.setStorage_program]
  | _ => rfl

/-- An instruction advances the transaction index by at most one (R21). -/
theorem Effect.index_le {i : Instr} {s t : State} (h : Effect i s t) : t.index ≤ s.index + 1 := by
  cases h with
  | refuse | hold => exact Nat.le_succ _
  | pageWrite => rw [State.opDone_index, State.setStorage_index]
  | _ => exact le_rfl

/-- An instruction leaves both storage arrays alone, or writes bytes inside one region. -/
theorem Effect.storage_cases {i : Instr} {s t : State} (h : Effect i s t) :
    (∀ q, t.storage q = s.storage q) ∨
    ∃ r a bs, a + bs.length ≤ s.cfg.size r ∧
      ∀ q, t.storage q = if q = r then (s.storage r).put a bs else s.storage q := by
  cases h with
  | pageWrite sz r a bs hi ht hb hl hs =>
    exact .inr ⟨r, a, bs, hl ▸ hb, s.setStorage_storage r (m := (s.storage r).put a bs)⟩
  | _ => exact .inl fun q => by cases q <;> rfl

/-- An instruction issued from the guest's program keeps the invariant. -/
theorem Effect.keeps_inv {i : Instr} {s t : State} (h : Effect i s t) (hs : s.Inv = true)
    (hidx : s.index < s.program.length) : t.Inv = true := by
  obtain ⟨-, hmem, -⟩ := s.inv_iff.1 hs
  refine State.inv_of_storage hs h.cfg_eq (fun q => ?_) ?_
  · rcases h.storage_cases with hsame | ⟨r, a, bs, hin, hput⟩
    · exact .inl (hsame q)
    · by_cases hq : q = r
      · subst hq
        rw [hput, if_pos rfl]
        exact .inr ⟨Memory.put_wf a bs (hmem q).1, Memory.put_within (hmem q).2 hin⟩
      · exact .inl (by rw [hput, if_neg hq])
  · rw [h.program_eq]
    exact h.index_le.trans hidx

/-- Settles O59: an instruction keeps the invariant, and no other move touches a field it speaks of. -/
theorem stepKeepsInvariant : Obligations.StepKeepsInvariant := by
  intro s t hs hstep
  obtain ⟨m, rest, -, hmove⟩ := step_cases hstep
  rcases hmove with ⟨-, -, rfl⟩ | ⟨-, -, rfl⟩ | ⟨-, i, ⟨w, ⟨-, hfetch⟩, -, -⟩, hexec⟩ | ⟨b, -, rfl⟩ |
    ⟨ready, -, rfl⟩ | ⟨-, rfl⟩
  · simpa using hs
  · simpa using hs
  · exact (exec_effect hexec).keeps_inv hs (State.index_lt_of_fetch hfetch)
  · simpa using hs
  · exact hs
  · simpa using hs

/-! Under a legal configuration every move answers a next state (R12, R175) -/

/-- A page write at the targeted page stays inside its region. -/
theorem writePage_next {s : State} {r : Region} {a : Nat} {bs : List Byte} (hc : s.cfg.wf = true)
    (ht : s.targets r a) (hl : bs.length = 512) : ∃ t, writePage r a bs s = .next t := by
  rcases writePage_cases r a bs s with ⟨-, he⟩ | ⟨hout, -⟩
  · exact ⟨_, he⟩
  · have hin := targets_in_region hc ht
    omega

/-- A write of NVM_OPCODE answers a next state: it is rejected, or its operation targets a page inside a region. -/
theorem opTrigger_next {s : State} (sz : Width) (data : Word) (hc : s.cfg.wf = true) :
    ∃ t, opTrigger sz data s = .next t := by
  by_cases hm : opcodeMagic data = opMagic
  · rw [opWord_of_magic hm]
    rcases opTrigger_cases sz (opcodeField data) s with
      ⟨-, he⟩ | ⟨r, a, ht, ⟨-, he⟩ | ⟨-, he⟩ | ⟨-, he⟩ | ⟨-, he⟩⟩ <;> rw [he]
    · exact ⟨_, rfl⟩
    · exact ⟨_, rfl⟩
    · exact writePage_next hc ht erasedPage_length
    · exact writePage_next hc ht (pagebuf_length s)
    · exact ⟨_, rfl⟩
  · exact ⟨_, if_pos hm⟩

/-- Every instruction answers a next state. -/
theorem exec_next {s : State} (i : Instr) (hc : s.cfg.wf = true) : ∃ t, exec i s = .next t := by
  cases i with
  | nvmOpBuferase sz | nvmOpPageerase sz | nvmOpProg4 sz | nvmOpProg5 sz | nvmOpProgC sz | nvmOpProgE sz
  | nvmOpUnimpl0 sz | nvmOpUnimpl1 sz | nvmOpUnimpl3 sz | nvmOpUnimpl6 sz | nvmOpUnimpl7 sz | nvmOpUnimpl8 sz
  | nvmOpUnimpl9 sz | nvmOpUnimplB sz | nvmOpUnimplD sz | nvmOpUnimplF sz | nvmOpBadmagic sz data =>
    rw [exec]
    exact opTrigger_next sz _ hc
  | uartTxdataWr sz data =>
    rw [exec, execUartTxdataWr]
    split
    · exact ⟨_, rfl⟩
    · exact ⟨_, rfl⟩
  | _ => exact ⟨_, rfl⟩

/-- The guest's move answers a next state: it waits, is refused, or runs an instruction. -/
theorem guestMove_next {s : State} (hc : s.cfg.wf = true) : ∃ t, guestMove s = .next t := by
  cases hf : s.fetch with
  | none => exact ⟨_, guestMove_of_fetch_none hf⟩
  | some w =>
    cases hw : (decode w).wellFormed s.cfg with
    | false => exact ⟨_, guestMove_of_illFormed hf hw⟩
    | true => rw [guestMove_of_wellFormed hf hw]; exact exec_next _ hc

/-- Every agent's move answers a next state. -/
theorem runMove_next {s : State} (m : Move) (hc : s.cfg.wf = true) : ∃ t, runMove m s = .next t := by
  cases m with
  | guest => exact guestMove_next hc
  | _ => exact ⟨_, rfl⟩

/-- Settles O60: the only fault is a MemWrite out of bounds, which a legal configuration rules out. -/
theorem noStepFaults : Obligations.NoStepFaults := by
  intro s hs hmark
  obtain ⟨hcfg, -, -⟩ := s.inv_iff.1 hs
  rw [State.goesOn, step_of_moves ⟨hmark, rfl⟩]
  exact runMove_next _ hcfg

end Sys2Proof.Machine

/-! PROOFS. The state's life (10_state.md): what one step may do to the keys, the staging state, storage and `eint`; the refusal mark and the transaction index; the invariant at reset. -/

namespace Sys2Proof.Machine

/-! What a step does to the NVM controller: RESET, one instruction of the guest, or nothing (R9, R61) -/

/-- `t` shows the NVM controller of `s`: the keys, `eint`, the page buffer, the staging pointer and what the storage read port answers (R23 to R27). -/
structure State.SameController (s t : State) : Prop where
  keyRegion : t.keyRegion = s.keyRegion
  keyParam : t.keyParam = s.keyParam
  keyGlobal : t.keyGlobal = s.keyGlobal
  eint : t.eint = s.eint
  pagebuf : t.pagebuf = s.pagebuf
  stgRegion : t.stgRegion = s.stgRegion
  stgAddr : t.stgAddr = s.stgAddr
  storeRead : ∀ q x, t.storeRead q x = s.storeRead q x

/-- A step resets the block, runs an instruction the guest issued, or leaves the NVM controller alone: only the UART, the channel's readiness, the schedule and the run's own bookkeeping move. -/
theorem step_controller_cases {s t : State} (h : step s = .next t) :
    (∃ rest, s.moves .reset rest ∧ t = resetBlock (s.withSchedule rest)) ∨
    (∃ i rest, s.issues i rest ∧ Effect i (s.withSchedule rest) t) ∨ s.SameController t := by
  obtain ⟨m, rest, hmoves, hmove⟩ := step_cases h
  rcases hmove with ⟨-, -, rfl⟩ | ⟨-, -, rfl⟩ | ⟨-, i, hi, hexec⟩ | ⟨b, -, rfl⟩ | ⟨ready, -, rfl⟩ | ⟨rfl, rfl⟩
  · exact .inr (.inr ⟨rfl, rfl, rfl, rfl, rfl, rfl, rfl, fun _ _ => rfl⟩)
  · exact .inr (.inr ⟨rfl, rfl, rfl, rfl, rfl, rfl, rfl, fun _ _ => rfl⟩)
  · exact .inr (.inl ⟨i, rest, hi, exec_effect hexec⟩)
  · exact .inr (.inr ⟨rfl, rfl, rfl, rfl, rfl, rfl, rfl, fun _ _ => rfl⟩)
  · exact .inr (.inr ⟨rfl, rfl, rfl, rfl, rfl, rfl, rfl, fun _ _ => rfl⟩)
  · exact .inl ⟨rest, hmoves, rfl⟩

/-- An instruction the guest issues stands in its own row of the table, so it is no bad magic with the right magic (R72). -/
theorem State.issues.not_misplaced {s : State} {i : Instr} {rest : List Move} (h : s.issues i rest) :
    ¬misplacedMagic i := by
  obtain ⟨w, -, -, hwf⟩ := h
  rintro ⟨hrow, -⟩
  rw [Instr.wellFormed, hrow] at hwf
  cases hwf

/-! The keys (R23, R124) -/

/-- An instruction changes a key only when it is the write of that key's own offset. -/
theorem Effect.keys_cases {i : Instr} {s t : State} (h : Effect i s t) :
    (t.keyRegion = s.keyRegion ∨ ∃ sz d, i = .nvmKeyRegionWr sz d) ∧
    (t.keyParam = s.keyParam ∨ ∃ sz d, i = .nvmKeyParamWr sz d) ∧
    (t.keyGlobal = s.keyGlobal ∨ ∃ sz d, i = .nvmKeyGlobalWr sz d) := by
  cases h with
  | keyRegion sz d hi => exact ⟨.inr ⟨sz, d, hi⟩, .inl rfl, .inl rfl⟩
  | keyParam sz d hi => exact ⟨.inl rfl, .inr ⟨sz, d, hi⟩, .inl rfl⟩
  | keyGlobal sz d hi => exact ⟨.inl rfl, .inl rfl, .inr ⟨sz, d, hi⟩⟩
  | stage | pageWrite => exact ⟨.inl (by simp), .inl (by simp), .inl (by simp)⟩
  | _ => exact ⟨.inl rfl, .inl rfl, .inl rfl⟩

/-- Settles O20: of the instructions, each key's own write alone changes it, and of the other agents RESET alone. -/
theorem keysChangeOnlyByOwnWrite : Obligations.KeysChangeOnlyByOwnWrite := by
  intro s t hstep
  rcases step_controller_cases hstep with ⟨rest, hreset, -⟩ | ⟨i, rest, hi, heff⟩ | hsame
  · exact ⟨fun _ => ⟨rest, .inl hreset⟩, fun _ => ⟨rest, .inl hreset⟩, fun _ => ⟨rest, .inl hreset⟩⟩
  · obtain ⟨hregion, hparam, hglobal⟩ := heff.keys_cases
    refine ⟨fun hne => ?_, fun hne => ?_, fun hne => ?_⟩
    · obtain ⟨sz, d, rfl⟩ := hregion.resolve_left hne
      exact ⟨rest, .inr ⟨sz, d, hi⟩⟩
    · obtain ⟨sz, d, rfl⟩ := hparam.resolve_left hne
      exact ⟨rest, .inr ⟨sz, d, hi⟩⟩
    · obtain ⟨sz, d, rfl⟩ := hglobal.resolve_left hne
      exact ⟨rest, .inr ⟨sz, d, hi⟩⟩
  · exact ⟨fun hne => absurd hsame.keyRegion hne, fun hne => absurd hsame.keyParam hne,
      fun hne => absurd hsame.keyGlobal hne⟩

/-! The page buffer and the staging pointer (R25, R26) -/

/-- An instruction leaves the staging state, is a staging store while unlocked, or is a buffer erase while unlocked, which leaves the pointer. -/
theorem Effect.staging_cases {i : Instr} {s t : State} (h : Effect i s t) (hi : ¬misplacedMagic i) :
    (t.pagebuf = s.pagebuf ∧ t.stgRegion = s.stgRegion ∧ t.stgAddr = s.stgAddr) ∨
    (s.unlocked = true ∧ ∃ off d, i = .stgCodeSt4 off d ∨ i = .stgParamSt4 off d) ∨
    (s.unlocked = true ∧ t.stgRegion = s.stgRegion ∧ t.stgAddr = s.stgAddr ∧ ∃ sz, i = .nvmOpBuferase sz) := by
  cases h with
  | stage r off d hst hu => exact .inr (.inl ⟨hu, off, d, hst⟩)
  | bufferErase sz r a hbe ht =>
    obtain ⟨hkeys, -⟩ := ht
    exact .inr (.inr ⟨s.unlocked_iff.2 hkeys, rfl, rfl, sz, hbe.resolve_right hi⟩)
  | pageWrite => exact .inl ⟨State.setStorage_pagebuf .., State.setStorage_stgRegion .., State.setStorage_stgAddr ..⟩
  | _ => exact .inl ⟨rfl, rfl, rfl⟩

/-- Settles O27: of the instructions the staging stores and the buffer erase alone, and both only past the unlock gate. -/
theorem stagingStateChangesOnlyAsSaid : Obligations.StagingStateChangesOnlyAsSaid := by
  intro s t hstep hne
  rcases step_controller_cases hstep with ⟨rest, hreset, -⟩ | ⟨i, rest, hi, heff⟩ | hsame
  · exact ⟨rest, .inl hreset⟩
  · refine ⟨rest, .inr ?_⟩
    rcases heff.staging_cases hi.not_misplaced with ⟨hpb, hsr, hsa⟩ | ⟨hu, off, d, rfl | rfl⟩ | ⟨hu, hsr, hsa, sz, rfl⟩
    · simp [hpb, hsr, hsa] at hne
    · exact .inl ⟨hu, off, d, .inl hi⟩
    · exact .inl ⟨hu, off, d, .inr hi⟩
    · exact .inr ⟨hu, hsr, hsa, sz, hi⟩
  · simp [hsame.pagebuf, hsame.stgRegion, hsame.stgAddr] at hne

/-! Storage (R27, R167, R175) -/

/-- What the read port shows of a region depends on the configuration and the region's array alone (R55). -/
theorem State.storeRead_congr {s t : State} {q : Region} (hc : t.cfg = s.cfg) (hm : t.storage q = s.storage q) (x : Nat) :
    t.storeRead q x = s.storeRead q x := by
  rw [State.storeRead, State.storeRead, hc, hm]

/-- An instruction changes what the read port shows at an address only as a page erase or a page program whose target page holds the address; `eint` is set then. -/
theorem Effect.storeRead_ne {i : Instr} {s t : State} (h : Effect i s t) (hi : ¬misplacedMagic i) {q : Region} {x : Nat}
    (hne : t.storeRead q x ≠ s.storeRead q x) :
    ∃ sz a, (i = .nvmOpPageerase sz ∨ i ∈ programTriggers sz) ∧ s.targets q a ∧ a ≤ x ∧ x < a + 512 ∧ t.eint = true := by
  cases h with
  | pageWrite sz r a bs hop ht hb hl hs =>
    have hread := State.memWrite_storeRead (show s.memWrite r a bs = some _ from if_pos (hl ▸ hb)) q x
    by_cases hin : q = r ∧ a ≤ x ∧ x < a + bs.length
    · obtain ⟨rfl, hlo, hhi⟩ := hin
      exact ⟨sz, a, hop.imp_right (·.resolve_right hi), ht, hlo, hl ▸ hhi, rfl⟩
    · exact absurd (hread.trans (if_neg hin)) hne
  | stage => exact absurd (State.storeRead_congr (by simp) (by cases q <;> simp [State.storage]) x) hne
  | _ => exact absurd rfl hne

/-- RESET leaves what the read port shows (R252). -/
theorem resetBlock_storeRead (s : State) (q : Region) (x : Nat) : (resetBlock s).storeRead q x = s.storeRead q x :=
  State.storeRead_congr (resetBlock_cfg s) (by cases q <;> simp [State.storage]) x

/-- Settles O37: of the instructions a page erase or page program alone writes storage, and no other agent does. -/
theorem storageChangesOnlyByOperations : Obligations.StorageChangesOnlyByOperations := by
  intro s t q x hstep hne
  rcases step_controller_cases hstep with ⟨rest, -, rfl⟩ | ⟨i, rest, hi, heff⟩ | hsame
  · exact absurd (resetBlock_storeRead (s.withSchedule rest) q x) hne
  · obtain ⟨sz, a, hop, ht, hlo, hhi, heint⟩ := heff.storeRead_ne hi.not_misplaced hne
    exact ⟨rest, sz, i, a, hi, hop, ht, hlo, hhi, heint⟩
  · exact absurd (hsame.storeRead q x) hne

/-! The event flag (R24, R226) -/

/-- An instruction leaves `eint`, sets it as an operation with a target page, or clears it as an acknowledge. -/
theorem Effect.eint_cases {i : Instr} {s t : State} (h : Effect i s t) (hi : ¬misplacedMagic i) :
    t.eint = s.eint ∨
    (t.eint = true ∧ ∃ sz r a, i ∈ effectTriggers sz ∧ s.targets r a) ∨
    (t.eint = false ∧ ∃ sz d, i = .nvmStatusWr sz d ∧ d[1] = false) := by
  cases h with
  | nvmStatusWr sz d hack =>
    cases hb : ackBit d with
    | true => exact .inl (by simp [hb])
    | false => exact .inr (.inr ⟨by simp [hb], sz, d, hack, hb⟩)
  | bufferErase sz r a hbe ht =>
    have hmem : i ∈ effectTriggers sz := by simp [effectTriggers, hbe.resolve_right hi]
    exact .inr (.inl ⟨rfl, sz, r, a, hmem, ht⟩)
  | pageWrite sz r a bs hop ht =>
    have hmem : i ∈ effectTriggers sz := List.mem_cons_of_mem _ (List.mem_cons.2 (hop.imp_right (·.resolve_right hi)))
    exact .inr (.inl ⟨rfl, sz, r, a, hmem, ht⟩)
  | stage => exact .inl (by simp)
  | _ => exact .inl rfl

/-- Settles O38: of the instructions the six operations raise `eint` and the acknowledge clears it; RESET clears it too. -/
theorem eintRisesOnlyByOperation : Obligations.EintRisesOnlyByOperation := by
  intro s t hstep
  rcases step_controller_cases hstep with ⟨rest, hreset, rfl⟩ | ⟨i, rest, hi, heff⟩ | hsame
  · exact ⟨fun _ ht => by simp at ht, fun _ _ => ⟨rest, .inl hreset⟩⟩
  · rcases heff.eint_cases hi.not_misplaced with he | ⟨he, sz, r, a, hmem, ht⟩ | ⟨he, sz, d, rfl, hd⟩
    · rw [State.withSchedule_eint] at he
      exact ⟨fun hs ht => by simp [he, hs] at ht, fun hs ht => by simp [he, hs] at ht⟩
    · exact ⟨fun _ _ => ⟨rest, sz, i, r, a, hi, hmem, ht⟩, fun _ hf => by simp [he] at hf⟩
    · exact ⟨fun _ ht => by simp [he] at ht, fun _ _ => ⟨rest, .inr ⟨sz, d, hi, hd⟩⟩⟩
  · have he := hsame.eint
    exact ⟨fun hs ht => by simp [he, hs] at ht, fun hs ht => by simp [he, hs] at ht⟩

/-! The refusal mark and the transaction index (R13, R21, R32) -/

/-- No instruction clears the refusal mark. -/
theorem Effect.refusalMark_mono {i : Instr} {s t : State} (h : Effect i s t) (hs : s.refusalMark = true) :
    t.refusalMark = true := by
  cases h with
  | refuse => rfl
  | stage | pageWrite => simpa using hs
  | _ => exact hs

/-- Settles O10: `step` looks at the mark first, and no effect of an instruction clears it. -/
theorem refusalMarkStopsTheRun : Obligations.RefusalMarkStopsTheRun :=
  ⟨fun _ hs => if_pos hs, fun _ _ _ hs hexec => (exec_effect hexec).refusalMark_mono hs⟩

/-- How an instruction ends: waiting, refused, or with another answer; only the last advances the index. -/
theorem Effect.index_cases {i : Instr} {s t : State} (h : Effect i s t) :
    (t.response = .hold ∧ t.index = s.index) ∨
    (∃ r, t.response = .refuse r ∧ t.index = s.index ∧ t.refusalMark = true) ∨
    (t.response ≠ .hold ∧ (∀ r, t.response ≠ .refuse r) ∧ t.index = s.index + 1) := by
  cases h with
  | hold => exact .inl ⟨rfl, rfl⟩
  | refuse r => exact .inr (.inl ⟨r, rfl, rfl, rfl⟩)
  | stage | pageWrite => exact .inr (.inr (by simp))
  | _ => exact .inr (.inr ⟨nofun, nofun, rfl⟩)

/-- Settles O11: the three ways an instruction ends exclude each other by the response. -/
theorem transactionIndexAdvances : Obligations.TransactionIndexAdvances := by
  intro i s t hexec
  rcases (exec_effect hexec).index_cases with ⟨hr, hidx⟩ | ⟨r, hr, hidx, hmark⟩ | ⟨hhold, hrefuse, hidx⟩
  · exact ⟨fun _ => hidx, fun r' hr' => by simp [hr] at hr', fun hno => absurd (.inl hr) hno⟩
  · exact ⟨fun _ => hidx, fun _ _ => ⟨hidx, hmark⟩, fun hno => absurd (.inr ⟨r, hr⟩) hno⟩
  · exact ⟨fun hr => absurd hr hhold, fun r hr => absurd hr (hrefuse r), fun _ => hidx⟩

/-! Reset (R7, R33, R250) -/

/-- The configuration at reset is one the spec allows, whatever its open parameters are. -/
theorem Config.default_wf : Config.default.wf = true := by decide

/-- Settles O58: the configuration is legal, both arrays are empty, and the index is 0. -/
theorem invariantHoldsAtReset : Obligations.InvariantHoldsAtReset :=
  State.reset.inv_iff.2
    ⟨Config.default_wf, fun r => ⟨reset_storage_wf r, by cases r <;> rfl⟩, Nat.zero_le _⟩

end Sys2Proof.Machine

/-! PROOFS. The memory model's access rules (20_memory.md): a repeated access, 8-byte and narrow accesses, and the byte order of the bus. -/

namespace Sys2Proof.Machine

/-! A write done twice (R57): storage, the page buffer, a trigger -/

/-- The entries below a write are the old array's. -/
theorem Memory.filter_lt_put (m : Memory) (a : Nat) (bs : List Byte) :
    (m.put a bs).filter (fun e => e.1 < a) = m.filter (fun e => e.1 < a) := by
  have hblock : (Memory.block a bs).filter (fun e => e.1 < a) = [] :=
    List.filter_eq_nil_iff.2 fun e he => by simpa using (Memory.block_mem he).1
  have habove : (m.filter fun e => a + bs.length ≤ e.1).filter (fun e => e.1 < a) = [] :=
    List.filter_eq_nil_iff.2 fun e he => by
      have hge := (List.mem_filter.1 he).2
      simp only [decide_eq_true_eq] at hge ⊢
      omega
  rw [Memory.put, List.filter_append, List.filter_append, hblock, habove, List.filter_filter]
  simp

/-- The entries above a write are the old array's. -/
theorem Memory.filter_ge_put (m : Memory) (a : Nat) (bs : List Byte) :
    (m.put a bs).filter (fun e => a + bs.length ≤ e.1) = m.filter (fun e => a + bs.length ≤ e.1) := by
  have hblock : (Memory.block a bs).filter (fun e => a + bs.length ≤ e.1) = [] :=
    List.filter_eq_nil_iff.2 fun e he => by simpa using (Memory.block_mem he).2.1
  have hbelow : (m.filter fun e => e.1 < a).filter (fun e => a + bs.length ≤ e.1) = [] :=
    List.filter_eq_nil_iff.2 fun e he => by
      have hlt := (List.mem_filter.1 he).2
      simp only [decide_eq_true_eq] at hlt ⊢
      omega
  rw [Memory.put, List.filter_append, List.filter_append, hblock, hbelow, List.filter_filter]
  simp

/-- Writing the same bytes again changes nothing, whatever form the array has. -/
theorem Memory.put_put (m : Memory) (a : Nat) (bs : List Byte) : (m.put a bs).put a bs = m.put a bs := by
  rw [Memory.put, Memory.filter_lt_put, Memory.filter_ge_put, Memory.put]

/-- Staging a word again at the same place changes nothing: at each index the bytes written by both are the same. -/
theorem stageWord_stageWord (pb : Vector Byte 512) (po : Nat) (data : Word) :
    stageWord (stageWord pb po data) po data = stageWord pb po data := by
  ext i hi
  simp only [stageWord, Vector.getElem_setIfInBounds]
  split_ifs <;> rfl

/-- Completing an operation writes no storage. -/
@[simp] theorem State.opDone_storage (s : State) (r : Region) : s.opDone.storage r = s.storage r := by cases r <;> rfl

/-- A page write leaves the page buffer it may have copied. -/
theorem writePage_pagebuf {r : Region} {a : Nat} {bs : List Byte} {s t : State} (h : writePage r a bs s = .next t) :
    t.pagebuf = s.pagebuf := by
  rcases writePage_cases r a bs s with ⟨-, he⟩ | ⟨-, he⟩ <;> rw [he] at h <;> cases h
  simp

/-- A page write on the state it left succeeds again and leaves the architectural state. -/
theorem writePage_twice {r : Region} {a : Nat} {bs : List Byte} {s t : State} (h : writePage r a bs s = .next t) :
    ∃ u, writePage r a bs t = .next u ∧ u.arch = t.arch := by
  rcases writePage_cases r a bs s with ⟨hin, he⟩ | ⟨-, he⟩ <;> rw [he] at h <;> cases h
  generalize hw : s.setStorage r ((s.storage r).put a bs) = w
  have hcfg : w.cfg = s.cfg := by rw [← hw, State.setStorage_cfg]
  have hsame : (w.storage r).put a bs = w.storage r := by
    rw [← hw, State.setStorage_storage, if_pos rfl, Memory.put_put]
  rcases writePage_cases r a bs w.opDone with ⟨-, he'⟩ | ⟨hout, -⟩
  · rw [State.opDone_storage, hsame, ← State.opDone_storage, State.setStorage_self] at he'
    exact ⟨_, he', rfl⟩
  · rw [State.opDone_cfg, hcfg] at hout
    omega

/-- The preconditions of an operation read the configuration, the keys and the staging pointer alone (R160). -/
theorem opTarget_congr {s t : State} (hc : t.cfg = s.cfg) (hu : t.unlocked = s.unlocked)
    (hr : t.stgRegion = s.stgRegion) (ha : t.stgAddr = s.stgAddr) : opTarget t = opTarget s := by
  rw [opTarget, opTarget, hu, hr, ha, hc]

/-- A trigger leaves what decides its own target. -/
theorem opTrigger_keeps_target {sz : Width} {data : Word} {s t : State} (h : opTrigger sz data s = .next t) :
    opTarget t = opTarget s := by
  cases exec_effect (i := .nvmOpBadmagic sz data) h with
  | pageWrite sz r a bs => exact opTarget_congr (by simp) (by simp [State.unlocked]) (by simp) (by simp)
  | stage r off d hi => rcases hi with hi | hi <;> cases hi
  | keyRegion _ _ hi | keyParam _ _ hi | keyGlobal _ _ hi => cases hi
  | _ => rfl

/-- A trigger repeated at once answers again, and leaves the architectural state as the first one left it. -/
theorem opTrigger_twice {sz : Width} {data : Word} {s t : State} (h : opTrigger sz data s = .next t) :
    ∃ u, opTrigger sz data t = .next u ∧ u.arch = t.arch := by
  have hsame := opTrigger_keeps_target h
  unfold opTrigger at h ⊢
  rw [hsame]
  by_cases hm : opcodeMagic data ≠ opMagic
  · exact ⟨_, if_pos hm, rfl⟩
  · rw [if_neg hm] at h ⊢
    cases ht : opTarget s with
    | error reason => exact ⟨_, rfl, rfl⟩
    | ok target =>
      obtain ⟨r, a⟩ := target
      simp only [ht] at h ⊢
      split_ifs at h ⊢
      · cases h; exact ⟨_, rfl, rfl⟩
      · exact writePage_twice h
      · rw [pageProgram, writePage_pagebuf h]
        exact writePage_twice h
      · exact ⟨_, rfl, rfl⟩

/-- An answer leaves the unlock gate. -/
@[simp] theorem State.respond_unlocked (s : State) (r : Response) : (s.respond r).unlocked = s.unlocked := rfl

/-- Staging leaves the unlock gate. -/
@[simp] theorem State.stage_unlocked (s : State) (r : Region) (off : Offset) (data : Word) :
    (s.stage r off data).unlocked = s.unlocked := by
  simp [State.unlocked]

/-- A staging store while locked is dropped (R140). -/
theorem stageStore_of_locked {s : State} (win : Window) (r : Region) (off : Offset) (data : Word)
    (hu : s.unlocked = false) : stageStore win r off data s = s.respond .drop := by
  rw [stageStore, hu]; rfl

/-- An unlocked staging store past the end of its region is rejected (R142). -/
theorem stageStore_of_outOfBounds {s : State} (win : Window) {r : Region} {off : Offset} (data : Word)
    (hu : s.unlocked = true) (hb : s.cfg.size r < off.toNat + 4) :
    stageStore win r off data s = s.rejected .stageOutOfBounds win off .w4 data := by
  rw [stageStore, hu, if_pos hb]; rfl

/-- An unlocked staging store inside its region is accepted (R141). -/
theorem stageStore_of_inBounds {s : State} (win : Window) {r : Region} {off : Offset} (data : Word)
    (hu : s.unlocked = true) (hb : ¬s.cfg.size r < off.toNat + 4) :
    stageStore win r off data s = (s.stage r off data).respond .done := by
  rw [stageStore, hu, if_neg hb]; rfl

/-- A staging store repeated at once leaves the architectural state as the first one left it. -/
theorem stageStore_twice (win : Window) (r : Region) (off : Offset) (data : Word) (s : State) :
    (stageStore win r off data (stageStore win r off data s)).arch = (stageStore win r off data s).arch := by
  cases hu : s.unlocked with
  | false =>
    have hu' : (s.respond .drop).unlocked = false := by simpa using hu
    rw [stageStore_of_locked win r off data hu, stageStore_of_locked win r off data hu']
    rfl
  | true =>
    by_cases hb : s.cfg.size r < off.toNat + 4
    · have hu' : (s.rejected .stageOutOfBounds win off .w4 data).unlocked = true := hu
      rw [stageStore_of_outOfBounds win data hu hb, stageStore_of_outOfBounds win data hu' hb]
      rfl
    · have hu' : ((s.stage r off data).respond .done).unlocked = true := by simpa using hu
      have hb' : ¬((s.stage r off data).respond .done).cfg.size r < off.toNat + 4 := by simpa using hb
      rw [stageStore_of_inBounds win data hu hb, stageStore_of_inBounds win data hu' hb']
      simp [State.arch, stageWord_stageWord]

/-! Every access of the guest (R57) -/

/-- A read other than UART_RXDATA's leaves the architectural state: it completes, is rejected or is refused. -/
theorem exec_read_arch {i : Instr} {s t : State} (h : exec i s = .next t) (hd : i.txn.dir = .rd)
    (hne : ∀ sz d, i ≠ .uartRxdataRd sz d) : t.arch = s.arch := by
  cases i with
  | uartRxdataRd sz d => exact absurd rfl (hne sz d)
  | anyW8 | nvmStatusRd | nvmWoRd04 | nvmWoRd20 | nvmWoRd24 | nvmWoRd28 | nvmUnmappedRd
  | uartStatusRd | uartTxdataRd | uartUnmappedRd | stgCodeRd | stgParamRd => cases h; rfl
  | _ => cases hd

/-- A write other than UART_TXDATA's, repeated at once, answers again and leaves the architectural state as the first one left it. -/
theorem exec_write_twice {i : Instr} {s t : State} (h : exec i s = .next t) (hd : i.txn.dir = .wr)
    (hne : ∀ sz d, i ≠ .uartTxdataWr sz d) : ∃ u, exec i t = .next u ∧ u.arch = t.arch := by
  cases i with
  | nvmOpBuferase | nvmOpPageerase | nvmOpProg4 | nvmOpProg5 | nvmOpProgC | nvmOpProgE
  | nvmOpUnimpl0 | nvmOpUnimpl1 | nvmOpUnimpl3 | nvmOpUnimpl6 | nvmOpUnimpl7 | nvmOpUnimpl8
  | nvmOpUnimpl9 | nvmOpUnimplB | nvmOpUnimplD | nvmOpUnimplF | nvmOpBadmagic =>
    rw [exec] at h ⊢
    exact opTrigger_twice h
  | stgCodeSt4 off data | stgParamSt4 off data => cases h; exact ⟨_, rfl, stageStore_twice ..⟩
  | uartTxdataWr sz data => exact absurd rfl (hne sz data)
  | nvmStatusWr | uartStatusWr => cases h; exact ⟨_, rfl, by simp [State.arch]⟩
  | anyW8 | nvmKeyRegionWr | nvmKeyParamWr | nvmKeyGlobalWr | nvmUnmappedWr | uartRxdataWr | uartUnmappedWr
  | stgCodeStMisaligned | stgCodeWrBadwidth | stgParamStMisaligned | stgParamWrBadwidth =>
    cases h; exact ⟨_, rfl, rfl⟩
  | _ => cases hd

/-- Settles O53: a read changes no register, and a write's own effect, done twice, is the effect done once. -/
theorem accessesAreIdempotent : Obligations.AccessesAreIdempotent :=
  fun _ _ _ hexec => ⟨exec_read_arch hexec, exec_write_twice hexec⟩

/-! 8-byte accesses and narrow writes (R53, R54, R74) -/

/-- Settles O12: an 8-byte access is `refuse(WIDTH8)` by its row of the table, which looks at nothing else (R54). -/
theorem eightByteAccessRefused : Obligations.EightByteAccessRefused := fun _ _ _ _ _ => rfl

/-- A write value that fits 1 or 2 bytes is below 2^16 (R71). -/
theorem Width.fits_narrow {sz : Width} {data : Word} (hsz : sz ≠ .w4) (h : sz.fits data = true) :
    data.toNat < 2 ^ 16 := by
  cases sz with
  | w1 => exact (of_decide_eq_true h).trans (by decide)
  | w2 => exact of_decide_eq_true h
  | w4 => exact absurd rfl hsz

/-- A write's data fits its width when the descriptor is well-formed (R71). -/
theorem Config.writeOk_fits {c : Config} {win : Window} {sz : Width} {off : Offset} {data : Word}
    (h : c.writeOk win sz off data = true) : sz.fits data = true :=
  (Bool.and_eq_true_iff.1 h).2

/-- The data of a well-formed write of 1 or 2 bytes is no word whose upper half has a bit set. -/
theorem Config.writeOk_narrow_ne {c : Config} {win : Window} {sz : Width} {off : Offset} {data v : Word}
    (h : c.writeOk win sz off data = true) (hsz : sz ≠ .w4) (hv : 2 ^ 16 ≤ v.toNat) : data ≠ v := by
  rintro rfl
  exact absurd hv (Nat.not_le.2 (Width.fits_narrow hsz (Config.writeOk_fits h)))

/-- A trigger's write value has a bit above the low 16: the magic stands there (R73). -/
theorem opWord_ge (n : BitVec 4) : 2 ^ 16 ≤ (opWord n).toNat := by
  revert n; decide

/-- A write of NVM_OPCODE is well-formed as the transaction it is, whatever row it stands in (R71). -/
theorem decodeOpcode_descriptorOk (c : Config) (sz : Width) (data : Word) :
    (decodeOpcode sz data).descriptorOk c = c.writeOk .reg sz offOpcode data := by
  unfold decodeOpcode
  iterate 16
    refine iteInduction (motive := fun i : Instr => i.descriptorOk c = c.writeOk .reg sz offOpcode data)
      (fun hdata => by rw [hdata]; rfl) fun _ => ?_
  rfl

/-- Settles O7: the sentinels and the trigger words need more than 16 bits, and a well-formed narrow write carries no more. -/
theorem narrowWritesNeverUnlockOrTrigger : Obligations.NarrowWritesNeverUnlockOrTrigger := by
  refine ⟨fun sz data s hsz => ?_, fun c w sz hsz hwf hwin hdir hoff hsize => ?_⟩
  · have hkey {off : Offset} {v : Word} (hv : 2 ^ 16 ≤ v.toNat) (h : s.cfg.writeOk .reg sz off data = true) :
        (data == v) = false := beq_false_of_ne (Config.writeOk_narrow_ne h hsz hv)
    exact ⟨fun h => ⟨_, rfl, hkey (by decide) h⟩, fun h => ⟨_, rfl, hkey (by decide) h⟩,
      fun h => ⟨_, rfl, hkey (by decide) h⟩⟩
  · rw [decode] at hwf ⊢
    generalize Txn.ofDescriptor w = t at *
    obtain ⟨win, dir, size, off, data⟩ := t
    dsimp only at hwin hdir hoff hsize
    subst hwin hdir hoff hsize
    have hok : c.writeOk .reg sz offOpcode data = true :=
      decodeOpcode_descriptorOk c sz data ▸ (Bool.and_eq_true_iff.1 hwf).2
    have hmagic : opcodeMagic data ≠ opMagic := fun hm =>
      Config.writeOk_narrow_ne hok hsz (opWord_ge (opcodeField data)) (opWord_of_magic hm)
    exact Laws.DecodeEncode.nvmOpBadmagic sz data (bne_iff_ne.2 hmagic)

/-! The byte order of the bus (R52) -/

/-- A value's bytes are as many as its width (R52). -/
@[simp] theorem bytesOf_length (sz : Width) (v : Word) : (bytesOf sz v).length = widthBytes sz := by
  cases sz <;> rfl

/-- The byte at the `k`-th address is the value's `k`-th most significant one (R52). -/
theorem bytesOf_getD (sz : Width) (v : Word) {k : Nat} (hk : k < widthBytes sz) :
    (bytesOf sz v).getD k 0 = v.extractLsb' (8 * (widthBytes sz - 1 - k)) 8 := by
  cases sz with
  | w1 => replace hk : k < 1 := hk; interval_cases k; rfl
  | w2 => replace hk : k < 2 := hk; interval_cases k <;> rfl
  | w4 => replace hk : k < 4 := hk; interval_cases k <;> rfl

/-- A byte put behind a bit vector, at 32 bits, is one round of the bus's composition. -/
theorem setWidth_append_byte {n : Nat} (x : BitVec n) (b : Byte) :
    (x ++ b).setWidth 32 = (x.setWidth 32 <<< 8) ||| b.setWidth 32 := by
  ext i hi
  by_cases h8 : i < 8
  · simp [BitVec.getLsbD_append, h8]
  · simp [BitVec.getLsbD_append, h8, BitVec.getLsbD_of_ge b i (Nat.not_lt.1 h8)]

/-- The bus composes one byte to its value. -/
theorem composeBytes_one (b0 : Byte) : composeBytes [b0] = b0.setWidth 32 := by
  simp [composeBytes]

/-- The bus composes two bytes big-endian. -/
theorem composeBytes_two (b0 b1 : Byte) : composeBytes [b0, b1] = (b0 ++ b1).setWidth 32 := by
  rw [setWidth_append_byte]
  simp [composeBytes]

/-- The bus composes four bytes big-endian. -/
theorem composeBytes_four (b0 b1 b2 b3 : Byte) : composeBytes [b0, b1, b2, b3] = b0 ++ b1 ++ b2 ++ b3 := by
  rw [← BitVec.setWidth_eq (b0 ++ b1 ++ b2 ++ b3), setWidth_append_byte, setWidth_append_byte, setWidth_append_byte]
  simp [composeBytes]

/-- The bytes of a value compose to its low bits (R52). -/
theorem composeBytes_bytesOf (sz : Width) (v : Word) :
    composeBytes (bytesOf sz v) = (v.extractLsb' 0 (8 * widthBytes sz)).setWidth 32 := by
  cases sz with
  | w1 => exact composeBytes_one _
  | w2 =>
    have h01 : v.extractLsb' 8 8 ++ v.extractLsb' 0 8 = v.extractLsb' 0 16 :=
      BitVec.extractLsb'_append_extractLsb'_eq_extractLsb' rfl
    rw [bytesOf, composeBytes_two, h01]
    rfl
  | w4 =>
    have h01 : v.extractLsb' 24 8 ++ v.extractLsb' 16 8 = v.extractLsb' 16 16 :=
      BitVec.extractLsb'_append_extractLsb'_eq_extractLsb' rfl
    have h012 : v.extractLsb' 16 16 ++ v.extractLsb' 8 8 = v.extractLsb' 8 24 :=
      BitVec.extractLsb'_append_extractLsb'_eq_extractLsb' rfl
    have h0123 : v.extractLsb' 8 24 ++ v.extractLsb' 0 8 = v.extractLsb' 0 32 :=
      BitVec.extractLsb'_append_extractLsb'_eq_extractLsb' rfl
    rw [bytesOf, composeBytes_four, h01, h012, h0123]
    exact (BitVec.setWidth_eq _).symm

/-- A word below `2^n` is its low `n` bits, zero-extended. -/
theorem setWidth_extractLsb'_of_lt {v : Word} {n : Nat} (h : v.toNat < 2 ^ n) : (v.extractLsb' 0 n).setWidth 32 = v := by
  apply BitVec.eq_of_toNat_eq
  rw [BitVec.toNat_setWidth, BitVec.extractLsb'_toNat, Nat.shiftRight_zero, Nat.mod_eq_of_lt h, Nat.mod_eq_of_lt v.isLt]

/-- A write of a value's bytes is the transaction of that width with the value they compose to (R15). -/
theorem writeTxn_bytesOf (win : Window) (off : Offset) (sz : Width) (v : Word) :
    writeTxn win off (bytesOf sz v) = some ⟨win, .wr, .upTo4 sz, off, composeBytes (bytesOf sz v)⟩ := by
  cases sz <;> rfl

/-- Settles O54: a response returns `bytesOf` its value, and composing those bytes gives a value of that width back. -/
theorem bytesAreBigEndian : Obligations.BytesAreBigEndian := by
  refine ⟨fun sz v hv resp hresp => ?_, fun win off b0 b1 b2 b3 => ⟨?_, ?_, ?_⟩⟩
  · have hbytes : responseBytes resp = bytesOf sz v := by
      rcases hresp with rfl | ⟨reason, rfl⟩ <;> rfl
    have hcompose : composeBytes (bytesOf sz v) = v := by
      rw [composeBytes_bytesOf, setWidth_extractLsb'_of_lt hv]
    rw [hbytes]
    refine ⟨bytesOf_length sz v, fun k hk => ?_, hcompose, fun win off => ?_⟩
    · rw [bytesOf_getD sz v hk, BitVec.extractLsb'_toNat, Nat.shiftRight_eq_div_pow]
    · rw [writeTxn_bytesOf, hcompose]
  · rw [← composeBytes_one]; rfl
  · rw [← composeBytes_two]; rfl
  · rw [← composeBytes_four]; rfl

end Sys2Proof.Machine

/-! PROOFS. The encoding (30_encoding.md): the fields of a descriptor word, the instruction of a transaction, the opcode table row by row, and the refusal of an ill-formed descriptor. -/

namespace Sys2Proof

open Machine

/-! The codes of a field (R70) -/

@[simp] theorem Window.ofBits_bits (win : Window) : Window.ofBits win.bits = win := by cases win <;> rfl
@[simp] theorem Dir.ofBits_bits (dir : Dir) : Dir.ofBits dir.bits = dir := by cases dir <;> rfl
@[simp] theorem Size.ofBits_bits (sz : Size) : Size.ofBits sz.bits = sz := by
  rcases sz with (_ | _ | _) | _ <;> rfl

@[simp] theorem Window.bits_ofBits (b : BitVec 2) : (Window.ofBits b).bits = b := by revert b; decide
@[simp] theorem Dir.bits_ofBits (b : BitVec 1) : (Dir.ofBits b).bits = b := by revert b; decide
@[simp] theorem Size.bits_ofBits (b : BitVec 2) : (Size.ofBits b).bits = b := by revert b; decide

/-! The fields of a descriptor word (R70) -/

/-- A word is its five fields, one after the other. -/
theorem append_fields (w : Descriptor) :
    w.extractLsb' 62 2 ++ w.extractLsb' 61 1 ++ w.extractLsb' 59 2 ++ w.extractLsb' 32 27 ++ w.extractLsb' 0 32 = w := by
  rw [BitVec.extractLsb'_append_extractLsb'_eq_extractLsb' (show 62 = 61 + 1 from rfl),
    BitVec.extractLsb'_append_extractLsb'_eq_extractLsb' (show 61 = 59 + 2 from rfl),
    BitVec.extractLsb'_append_extractLsb'_eq_extractLsb' (show 59 = 32 + 27 from rfl),
    BitVec.extractLsb'_append_extractLsb'_eq_extractLsb' (show 32 = 0 + 32 from rfl)]
  exact BitVec.extractLsb'_eq_self

/-- Two words are equal when their five fields are. -/
theorem descriptor_eq_iff (v w : Descriptor) : v = w ↔
    v.extractLsb' 62 2 = w.extractLsb' 62 2 ∧ v.extractLsb' 61 1 = w.extractLsb' 61 1 ∧
    v.extractLsb' 59 2 = w.extractLsb' 59 2 ∧ v.extractLsb' 32 27 = w.extractLsb' 32 27 ∧
    v.extractLsb' 0 32 = w.extractLsb' 0 32 := by
  refine ⟨by rintro rfl; exact ⟨rfl, rfl, rfl, rfl, rfl⟩, ?_⟩
  rintro ⟨hwin, hdir, hsz, hoff, hdata⟩
  rw [← append_fields v, hwin, hdir, hsz, hoff, hdata, append_fields]

@[simp] theorem Txn.toDescriptor_data (t : Txn) : t.toDescriptor.extractLsb' 0 32 = t.data :=
  BitVec.extractLsb'_append_eq_right
@[simp] theorem Txn.toDescriptor_off (t : Txn) : t.toDescriptor.extractLsb' 32 27 = t.off :=
  (BitVec.extractLsb'_append_eq_of_le (by decide)).trans BitVec.extractLsb'_append_eq_right
@[simp] theorem Txn.toDescriptor_sz (t : Txn) : t.toDescriptor.extractLsb' 59 2 = t.sz.bits := by
  rw [Txn.toDescriptor]
  iterate 2 rw [BitVec.extractLsb'_append_eq_of_le (by decide)]
  exact BitVec.extractLsb'_append_eq_right
@[simp] theorem Txn.toDescriptor_dir (t : Txn) : t.toDescriptor.extractLsb' 61 1 = t.dir.bits := by
  rw [Txn.toDescriptor]
  iterate 3 rw [BitVec.extractLsb'_append_eq_of_le (by decide)]
  exact BitVec.extractLsb'_append_eq_right
@[simp] theorem Txn.toDescriptor_win (t : Txn) : t.toDescriptor.extractLsb' 62 2 = t.win.bits := by
  rw [Txn.toDescriptor]
  iterate 4 rw [BitVec.extractLsb'_append_eq_of_le (by decide)]
  exact BitVec.extractLsb'_eq_self

/-- Reading the word of a transaction gives the transaction back. -/
@[simp] theorem Txn.ofDescriptor_toDescriptor (t : Txn) : Txn.ofDescriptor t.toDescriptor = t := by
  simp [Txn.ofDescriptor]

/-- The word of the transaction that a word encodes is the word itself. -/
@[simp] theorem Txn.toDescriptor_ofDescriptor (w : Descriptor) : (Txn.ofDescriptor w).toDescriptor = w := by
  simp [descriptor_eq_iff, Txn.ofDescriptor]

/-- The number two bit vectors hold when one stands above the other. -/
theorem toNat_append_eq_add {m n : Nat} (x : BitVec m) (y : BitVec n) : (x ++ y).toNat = x.toNat * 2 ^ n + y.toNat := by
  rw [BitVec.toNat_append, ← Nat.shiftLeft_add_eq_or_of_lt y.isLt, Nat.shiftLeft_eq]

/-- The number a transaction's word holds, by its fields. -/
theorem Txn.toDescriptor_toNat (t : Txn) : t.toDescriptor.toNat =
    t.win.bits.toNat * 2 ^ 62 + t.dir.bits.toNat * 2 ^ 61 + t.sz.bits.toNat * 2 ^ 59 + t.off.toNat * 2 ^ 32 + t.data.toNat := by
  simp only [Txn.toDescriptor, toNat_append_eq_add]
  omega

/-- Settles O1: each field's code stands at its own power of two. -/
theorem descriptorFieldLayout : Obligations.DescriptorFieldLayout := by
  intro t
  rw [Txn.toDescriptor_toNat]
  refine congrArg (· + _) (congrArg (· + _) (congrArg₂ (· + ·) (congrArg₂ (· + ·) ?_ ?_) ?_))
  · cases t.win <;> rfl
  · cases t.dir <;> rfl
  · rcases t.sz with (_ | _ | _) | _ <;> rfl

/-! The instruction of a transaction (R72) -/

/-- The transaction of an instruction in its own row decodes to that instruction. -/
theorem decodeTxn_txn (i : Instr) (h : i.inRow = true) : decodeTxn i.txn = i := by
  cases i with
  | nvmOpBadmagic sz data => exact Laws.DecodeEncode.nvmOpBadmagic sz data h
  | nvmUnmappedRd sz off data => exact Laws.DecodeEncode.nvmUnmappedRd sz off data h
  | nvmUnmappedWr sz off data => exact Laws.DecodeEncode.nvmUnmappedWr sz off data h
  | uartUnmappedRd sz off data => exact Laws.DecodeEncode.uartUnmappedRd sz off data h
  | uartUnmappedWr sz off data => exact Laws.DecodeEncode.uartUnmappedWr sz off data h
  | stgCodeSt4 off data => exact Laws.DecodeEncode.stgCodeSt4 off data h
  | stgCodeStMisaligned off data => exact Laws.DecodeEncode.stgCodeStMisaligned off data h
  | stgCodeWrBadwidth sz off data => exact Laws.DecodeEncode.stgCodeWrBadwidth sz off data h
  | stgParamSt4 off data => exact Laws.DecodeEncode.stgParamSt4 off data h
  | stgParamStMisaligned off data => exact Laws.DecodeEncode.stgParamStMisaligned off data h
  | stgParamWrBadwidth sz off data => exact Laws.DecodeEncode.stgParamWrBadwidth sz off data h
  | _ => rfl

/-- `i` is the instruction of the transaction `t`: it carries all of `t`, and stands in its own row of the table. -/
def Instr.isRowOf (i : Instr) (t : Txn) : Prop := i.txn = t ∧ i.inRow = true

/-- A write of NVM_OPCODE decodes to its trigger when it carries the magic, and to the bad magic otherwise. -/
theorem decodeOpcode_isRowOf (sz : Width) (data : Word) :
    (decodeOpcode sz data).isRowOf (.narrow .reg .wr sz offOpcode data) := by
  by_cases hmagic : opcodeMagic data = opMagic
  · rw [opWord_of_magic hmagic]
    generalize opcodeField data = n
    unfold Instr.isRowOf
    revert n
    cases sz <;> decide
  · have hbad : decodeOpcode sz data = .nvmOpBadmagic sz data :=
      Laws.DecodeEncode.nvmOpBadmagic sz data (bne_iff_ne.2 hmagic)
    rw [hbad]
    exact ⟨rfl, bne_iff_ne.2 hmagic⟩

/-- A REG access decodes to the row of its offset, or to the unmapped row when no register is there. -/
theorem decodeReg_isRowOf (dir : Dir) (sz : Width) (off : Offset) (data : Word) :
    (decodeReg dir sz off data).isRowOf (.narrow .reg dir sz off data) := by
  cases dir with
  | rd =>
    dsimp only [decodeReg]
    split_ifs
    iterate 5 subst off; exact ⟨rfl, rfl⟩
    exact ⟨rfl, by simp [Instr.inRow, regMapped, *]⟩
  | wr =>
    dsimp only [decodeReg]
    split_ifs
    · subst off; exact ⟨rfl, rfl⟩
    · subst off; exact decodeOpcode_isRowOf sz data
    iterate 3 subst off; exact ⟨rfl, rfl⟩
    exact ⟨rfl, by simp [Instr.inRow, regMapped, *]⟩

/-- A UART access decodes to the row of its offset, or to the unmapped row when no register is there. -/
theorem decodeUart_isRowOf (dir : Dir) (sz : Width) (off : Offset) (data : Word) :
    (decodeUart dir sz off data).isRowOf (.narrow .uart dir sz off data) := by
  cases dir with
  | rd | wr =>
    dsimp only [decodeUart]
    split_ifs
    iterate 3 subst off; exact ⟨rfl, rfl⟩
    exact ⟨rfl, by simp [Instr.inRow, uartMapped, *]⟩

/-- A transaction decodes to an instruction that carries all of it, in its own row. -/
theorem decodeTxn_isRowOf (t : Txn) : (decodeTxn t).isRowOf t := by
  obtain ⟨win, dir, sz | _, off, data⟩ := t
  · cases win with
    | reg => exact decodeReg_isRowOf dir sz off data
    | uart => exact decodeUart_isRowOf dir sz off data
    | code | param =>
      dsimp only [decodeTxn, decodeCode, decodeParam]
      split
      · split_ifs with haligned
        · exact ⟨rfl, haligned⟩
        · exact ⟨rfl, by simpa [Instr.inRow] using haligned⟩
      · next hsz => exact ⟨rfl, by simpa [Instr.inRow] using hsz⟩
      · exact ⟨rfl, rfl⟩
  · exact ⟨rfl, rfl⟩

/-- Settles O4: the word of an instruction reads back as its transaction, which decodes to it. -/
theorem encodeThenDecode : Obligations.EncodeThenDecode := by
  intro i h
  rw [decode, encode, Txn.ofDescriptor_toDescriptor, decodeTxn_txn i h]

/-- Settles O5: a decoded instruction carries the whole transaction of the word. -/
theorem decodeThenEncode : Obligations.DecodeThenEncode := by
  intro w
  obtain ⟨htxn, hrow⟩ := decodeTxn_isRowOf (Txn.ofDescriptor w)
  exact ⟨by rw [encode, decode, htxn, Txn.toDescriptor_ofDescriptor], hrow⟩

/-- Settles O6: the six words, read and decoded. -/
theorem writtenOutWordsDecode : Obligations.WrittenOutWordsDecode := by
  unfold Obligations.WrittenOutWordsDecode
  decide

/-! The opcode table (R72) -/

/-- A row matches a transaction's word when it matches it field by field. -/
theorem OpcodeRow.matchesWord_toDescriptor (r : OpcodeRow) (t : Txn) : r.matchesWord t.toDescriptor = true ↔
    t.win.bits &&& r.mask.extractLsb' 62 2 = r.pattern.extractLsb' 62 2 ∧
    t.dir.bits &&& r.mask.extractLsb' 61 1 = r.pattern.extractLsb' 61 1 ∧
    t.sz.bits &&& r.mask.extractLsb' 59 2 = r.pattern.extractLsb' 59 2 ∧
    t.off &&& r.mask.extractLsb' 32 27 = r.pattern.extractLsb' 32 27 ∧
    t.data &&& r.mask.extractLsb' 0 32 = r.pattern.extractLsb' 0 32 := by
  rw [OpcodeRow.matchesWord, beq_iff_eq, descriptor_eq_iff]
  simp only [BitVec.extractLsb'_and, Txn.toDescriptor_win, Txn.toDescriptor_dir, Txn.toDescriptor_sz,
    Txn.toDescriptor_off, Txn.toDescriptor_data]

/-- The mnemonic of the first of `rows` that the transaction's word matches. -/
def firstRow (rows : List OpcodeRow) (t : Txn) : Option String :=
  (rows.find? fun r => r.matchesWord t.toDescriptor).map OpcodeRow.mnemonic

/-- The first row of a table is its head when that matches, and otherwise the first row of its tail. -/
theorem firstRow_cons (r : OpcodeRow) (rows : List OpcodeRow) (t : Txn) : firstRow (r :: rows) t =
    if r.matchesWord t.toDescriptor then some r.mnemonic else firstRow rows t := by
  rw [firstRow, List.find?_cons]
  cases r.matchesWord t.toDescriptor <;> rfl

/-! What a row's masked field asks of a transaction: the whole field, or the two low bits of the offset -/

@[simp] theorem Size.bits_and_full (sz : Size) : sz.bits &&& 3#2 = sz.bits := BitVec.and_allOnes
@[simp] theorem off_and_full (off : Offset) : off &&& 0x7FFFFFF#27 = off := BitVec.and_allOnes
@[simp] theorem data_and_full (data : Word) : data &&& 0xFFFFFFFF#32 = data := BitVec.and_allOnes
@[simp] theorem Size.bits_upTo4_ne_w8 (sz : Width) : (Size.upTo4 sz).bits ≠ 3#2 := by cases sz <;> decide
@[simp] theorem Size.bits_upTo4_eq_w4 (sz : Width) : (Size.upTo4 sz).bits = 2#2 ↔ sz = .w4 := by cases sz <;> decide

@[simp] theorem off_and_low (off : Offset) : off &&& 3#27 = 0#27 ↔ Offset.aligned off = true := by
  rw [Offset.aligned, beq_iff_eq, ← BitVec.toNat_inj, ← BitVec.toNat_inj, BitVec.toNat_and, BitVec.extractLsb'_toNat]
  exact (Nat.and_two_pow_sub_one_eq_mod off.toNat 2).symm ▸ Iff.rfl

/-- The mnemonic of a choice is the choice of the mnemonics. -/
theorem some_mnemonic_ite (p : Prop) [Decidable p] (i j : Instr) :
    some (if p then i else j).mnemonic = if p then some i.mnemonic else some j.mnemonic := by
  split <;> rfl

/-- The first row of an access of at most 4 bytes is the row it decodes to: past the 8-byte row only the rows of its window and direction can match, and they ask for its offset, its data or its width in the order in which the decoder does. -/
theorem firstRow_narrow (win : Window) (dir : Dir) (sz : Width) (off : Offset) (data : Word) :
    firstRow opcodeRows (.narrow win dir sz off data) = some (decodeTxn (.narrow win dir sz off data)).mnemonic := by
  simp only [opcodeRows, opcodeRows1, opcodeRows2, opcodeRows3, opcodeRows4, opcodeRows5, opcodeRows6, opcodeRows7,
    opcodeRows8, List.cons_append, List.nil_append, firstRow_cons, OpcodeRow.matchesWord_toDescriptor, Txn.narrow]
  cases win with
  | reg =>
    cases dir with
    | rd =>
      simp [Window.bits, Dir.bits, decodeTxn, decodeReg, some_mnemonic_ite]
      rfl
    | wr =>
      by_cases hop : off = 4#27
      · simp [hop, Window.bits, Dir.bits, decodeTxn, decodeReg, decodeOpcode, some_mnemonic_ite, offOpcode, offStatus]
        rfl
      · simp [hop, Window.bits, Dir.bits, decodeTxn, decodeReg, some_mnemonic_ite, offOpcode]
        rfl
  | uart => cases dir <;> simp [Window.bits, Dir.bits, decodeTxn, decodeUart, some_mnemonic_ite] <;> rfl
  | code | param =>
    cases dir <;> cases sz <;>
      simp [Window.bits, Dir.bits, decodeTxn, decodeCode, decodeParam, some_mnemonic_ite] <;> rfl

/-- The first row a transaction's word matches is the row it decodes to. -/
theorem firstRow_decodeTxn (t : Txn) : firstRow opcodeRows t = some (decodeTxn t).mnemonic := by
  obtain ⟨win, dir, sz | _, off, data⟩ := t
  · exact firstRow_narrow win dir sz off data
  · exact (firstRow_cons ..).trans (if_pos (by simp [OpcodeRow.matchesWord_toDescriptor, Size.bits]))

/-- Settles O3: the table is matched field by field, on the transaction that the word encodes. -/
theorem decodeTakesFirstTableRow : Obligations.DecodeTakesFirstTableRow := by
  intro w
  rw [decode, ← firstRow_decodeTxn, firstRow, Txn.toDescriptor_ofDescriptor]

/-! Well-formed descriptors (R71) -/

/-- R71 for a transaction: the offset in its window, the data of a write in its size, the data of a read 0. -/
def Txn.descriptorOk (c : Config) (t : Txn) : Bool :=
  match t.dir, t.sz with
  | .rd, _ => c.readOk t.win t.off t.data
  | .wr, .upTo4 sz => c.writeOk t.win sz t.off t.data
  | .wr, .w8 => c.inWindow t.win t.off

/-- An instruction's descriptor is well-formed as the transaction it is. -/
theorem Instr.descriptorOk_eq_txn (c : Config) (i : Instr) : i.descriptorOk c = i.txn.descriptorOk c := by
  cases i with
  | anyW8 win dir off data => cases dir <;> rfl
  | _ => rfl

/-- A write value fits a width when it is below 2 to the width's bits. -/
theorem Width.fits_iff (sz : Width) (data : Word) : sz.fits data = true ↔ data.toNat < 2 ^ (8 * widthBytes sz) := by
  cases sz with
  | w1 | w2 => exact decide_eq_true_iff
  | w4 => exact iff_of_true rfl data.isLt

/-- The three conditions of R71. -/
theorem Txn.descriptorOk_iff (c : Config) (t : Txn) : t.descriptorOk c = true ↔
    t.off.toNat < c.winSize t.win ∧ (t.dir = .wr → t.data.toNat < 2 ^ (8 * sizeBytes t.sz)) ∧
      (t.dir = .rd → t.data = 0) := by
  obtain ⟨win, dir, sz, off, data⟩ := t
  cases dir with
  | rd => simp [Txn.descriptorOk, Config.readOk, Config.inWindow]
  | wr =>
    cases sz with
    | upTo4 sz => simp [Txn.descriptorOk, Config.writeOk, Config.inWindow, Width.fits_iff, sizeBytes]
    | w8 =>
      have hdata : data.toNat < 2 ^ (8 * sizeBytes .w8) := data.isLt.trans (by decide)
      simp [Txn.descriptorOk, Config.inWindow, hdata]

/-- A word decodes to a well-formed instruction when its transaction meets R71. -/
theorem decode_wellFormed (c : Config) (w : Descriptor) :
    (decode w).wellFormed c = (Txn.ofDescriptor w).descriptorOk c := by
  obtain ⟨htxn, hrow⟩ := decodeTxn_isRowOf (Txn.ofDescriptor w)
  rw [decode, Instr.wellFormed, hrow, Bool.true_and, Instr.descriptorOk_eq_txn, htxn]

/-- Settles O2: the decoder's check of the instruction is R71's check of the transaction. -/
theorem wellFormedIffR71 : Obligations.WellFormedIffR71 := by
  intro c w
  simp only [decodeChecked, decode_wellFormed, Txn.descriptorOk_iff]

/-- Settles O9: the guest's move of an ill-formed word only refuses. -/
theorem illFormedDescriptorRefused : Obligations.IllFormedDescriptorRefused := by
  rintro s w rest ⟨hmoves, hfetch⟩ hwf
  rw [step_of_moves hmoves]
  exact guestMove_of_illFormed hfetch hwf

end Sys2Proof

/-! PROOFS. The dispatcher (40_dispatcher.md): the status register, the write-only offsets and the unmapped offsets of the REG window. -/

namespace Sys2Proof.Machine

/-! The status register (R101, R102) -/

/-- A value that one byte holds is read whole at every width (R53). -/
theorem truncRead_of_lt {v : Word} (sz : Width) (h : v.toNat < 2 ^ 8) : truncRead sz v = v := by
  cases sz with
  | w1 => exact setWidth_extractLsb'_of_lt h
  | w2 => exact setWidth_extractLsb'_of_lt (h.trans (by decide))
  | w4 => rfl

/-- NVM_STATUS holds 2 with the event flag set, and 0 without it. -/
theorem State.nvmStatus_eq (s : State) : s.nvmStatus = if s.eint then 0x00000002 else 0 := by
  rw [State.nvmStatus]
  cases s.eint <;> rfl

/-- NVM_STATUS has no bit above its low byte. -/
theorem State.nvmStatus_lt (s : State) : s.nvmStatus.toNat < 2 ^ 8 := by
  rw [State.nvmStatus_eq]
  split <;> decide

/-- Settles O13: NVM_STATUS lies in its low byte, so every width reads the whole of it. -/
theorem nvmStatusReadShowsEint : Obligations.NvmStatusReadShowsEint := by
  intro sz data s
  refine ⟨rfl, ?_⟩
  rw [← State.nvmStatus_eq, ← truncRead_of_lt sz s.nvmStatus_lt]
  rfl

/-- The acknowledge keeps the event flag where bit 1 of the data is set, and clears it elsewhere. -/
theorem State.ackEint_eq (s : State) (data : Word) : s.ackEint data = { s with eint := s.eint && data[1] } := by
  have hack : ackBit data = data[1] := rfl
  rw [State.ackEint, hack]
  cases data[1] <;> simp

/-- Settles O14: the write is the acknowledge, which asks bit 1 of the data and no key. -/
theorem nvmStatusWriteAcknowledges : Obligations.NvmStatusWriteAcknowledges := by
  intro sz data s
  refine ⟨rfl, ?_⟩
  rw [exec, execNvmStatusWr, State.ackEint_eq]
  rfl

/-! Offsets with no register to read, or none at all (R104, R105) -/

/-- An offset has no register behind it when it is none of the five (R59). -/
theorem regMapped_eq_false_iff (off : Offset) :
    regMapped off = false ↔ off ≠ 0x00 ∧ off ≠ 0x04 ∧ off ≠ 0x20 ∧ off ≠ 0x24 ∧ off ≠ 0x28 := by
  simp [regMapped, offStatus, offOpcode, offKeyRegion, offKeyParam, offKeyGlobal, and_assoc]

/-- Settles O15: both accesses only log and answer, and stand in their rows where no register is mapped. -/
theorem unmappedRegAccessIgnored : Obligations.UnmappedRegAccessIgnored := by
  intro sz off data s
  refine ⟨rfl, rfl, rfl, rfl, fun i hi => ?_⟩
  have hrow : i.inRow = !regMapped off := by
    rcases List.mem_pair.1 hi with rfl | rfl <;> rfl
  rw [hrow, Bool.not_eq_true', regMapped_eq_false_iff]

/-- Settles O16: each of the four reads is the rejected read of its own offset, which looks at no key. -/
theorem writeOnlyOffsetsReadZero : Obligations.WriteOnlyOffsetsReadZero := by
  intro sz data s p hp
  simp only [List.mem_cons, List.not_mem_nil, or_false] at hp
  rcases hp with rfl | rfl | rfl | rfl <;> exact ⟨rfl, rfl⟩

end Sys2Proof.Machine

/-! PROOFS. The unlock gate (41_key_unlock.md): one rule for the three key writes, what any sequence of transactions leaves of a key, and the unlock mask. -/

namespace Sys2Proof.Machine

/-! The three keys, told apart by name, so that each rule of R120 to R125 is said once -/

/-- The keys of the unlock gate (R23). -/
inductive Key where
  | region | param | global

/-- Whether the key is set. -/
def Key.bit : Key → State → Bool
  | .region, s => s.keyRegion
  | .param, s => s.keyParam
  | .global, s => s.keyGlobal

/-- The state with the key set or cleared. -/
def Key.put : Key → Bool → State → State
  | .region, b, s => { s with keyRegion := b }
  | .param, b, s => { s with keyParam := b }
  | .global, b, s => { s with keyGlobal := b }

/-- The value that sets the key (R120, R121, R122). -/
def Key.sentinel : Key → Word
  | .region => sentRegion
  | .param => sentParam
  | .global => sentGlobal

/-- The write of the key's offset. -/
def Key.write : Key → Width → Word → Instr
  | .region, sz, d => .nvmKeyRegionWr sz d
  | .param, sz, d => .nvmKeyParamWr sz d
  | .global, sz, d => .nvmKeyGlobalWr sz d

/-- What an instruction writes to the key's offset, if it does. -/
def Key.written : Key → Instr → Option Word
  | .region, .nvmKeyRegionWr _ d => some d
  | .param, .nvmKeyParamWr _ d => some d
  | .global, .nvmKeyGlobalWr _ d => some d
  | _, _ => none

/-- The value the last write to the key's offset carried (R123). -/
def Key.lastWrite : Key → List Instr → Option Word
  | .region => lastRegionKey
  | .param => lastParamKey
  | .global => lastGlobalKey

/-- The key's place in the unlock mask (R23, R125). -/
def Key.place : Key → Nat
  | .region => 0
  | .param => 1
  | .global => 2

/-- Only the key's own write writes its offset. -/
theorem Key.eq_write_of_written {k : Key} {i : Instr} {d : Word} (h : k.written i = some d) : ∃ sz, i = k.write sz d := by
  unfold Key.written at h
  split at h <;> cases h <;> exact ⟨_, rfl⟩

/-- A key put to a value has it. -/
@[simp] theorem Key.bit_put (k : Key) (b : Bool) (s : State) : k.bit (k.put b s) = b := by
  cases k <;> rfl

/-- An answer leaves the keys. -/
@[simp] theorem Key.bit_respond (k : Key) (s : State) (r : Response) : k.bit (s.respond r) = k.bit s := by
  cases k <;> rfl

/-- A key write completes with its key compared to its sentinel (R120, R121, R122). -/
theorem exec_keyWrite (k : Key) (sz : Width) (d : Word) (s : State) :
    exec (k.write sz d) s = .next ((k.put (d == k.sentinel) s).respond .done) := by
  cases k <;> rfl

/-- Settles O17: the rule of a key write, for each key with its sentinel's number. -/
theorem keyWriteComparesSentinel : Obligations.KeyWriteComparesSentinel := fun sz data s =>
  ⟨rfl, exec_keyWrite .region sz data s, rfl, exec_keyWrite .param sz data s, rfl, exec_keyWrite .global sz data s⟩

/-! A key after a sequence of transactions (R123) -/

/-- An instruction that does not write a key's offset leaves the key. -/
theorem Effect.bit_eq {i : Instr} {s t : State} {k : Key} (h : Effect i s t) (hw : k.written i = none) :
    k.bit t = k.bit s := by
  obtain ⟨hregion, hparam, hglobal⟩ := h.keys_cases
  cases k with
  | region => exact hregion.resolve_right (by rintro ⟨sz, d, rfl⟩; cases hw)
  | param => exact hparam.resolve_right (by rintro ⟨sz, d, rfl⟩; cases hw)
  | global => exact hglobal.resolve_right (by rintro ⟨sz, d, rfl⟩; cases hw)

/-- An instruction makes a key what its own write to the key's offset says, or leaves it. -/
theorem exec_bit {i : Instr} {s t : State} (k : Key) (h : exec i s = .next t) :
    k.bit t = keyAfter (k.bit s) k.sentinel (k.written i) := by
  cases hw : k.written i with
  | none => exact (exec_effect h).bit_eq hw
  | some d =>
    obtain ⟨sz, rfl⟩ := Key.eq_write_of_written hw
    rw [exec_keyWrite] at h
    cases h
    rw [Key.bit_respond, Key.bit_put, keyAfter]

/-- A sequence that goes on runs its first transaction and then the rest. -/
theorem execAll_cons_eq_next {i : Instr} {is : List Instr} {s t : State} (h : execAll (i :: is) s = .next t) :
    ∃ u, exec i s = .next u ∧ execAll is u = .next t := by
  rw [execAll] at h
  cases hexec : exec i s with
  | next u => rw [hexec] at h; exact ⟨u, rfl, h⟩
  | fault r => rw [hexec] at h; cases h
  | refused r => rw [hexec] at h; cases h

/-- A first write to a key's offset counts only when no later one follows. -/
theorem keyAfter_keyAfter (old : Bool) (sent : Word) (first last : Option Word) :
    keyAfter (keyAfter old sent first) sent last = keyAfter old sent (last.or first) := by
  cases last <;> rfl

/-- The last write to a key's offset is the last of what the transactions write there. -/
theorem Key.lastWrite_eq (k : Key) (is : List Instr) : k.lastWrite is = (is.filterMap k.written).getLast? := by
  cases k <;>
  · refine congrArg (fun written => (is.filterMap written).getLast?) (funext fun i => ?_)
    cases i <;> rfl

/-- The last write to a key's offset is one of the later transactions, or else the first. -/
theorem Key.lastWrite_cons (k : Key) (i : Instr) (is : List Instr) :
    k.lastWrite (i :: is) = (k.lastWrite is).or (k.written i) := by
  simp only [Key.lastWrite_eq]
  cases hw : k.written i with
  | none => rw [List.filterMap_cons_none hw, Option.or_none]
  | some d =>
    rw [List.filterMap_cons_some hw, List.getLast?_cons]
    cases (is.filterMap k.written).getLast? <;> rfl

/-- After any sequence of transactions a key is what the last write to its offset made it. -/
theorem execAll_bit {is : List Instr} {s t : State} (k : Key) (h : execAll is s = .next t) :
    k.bit t = keyAfter (k.bit s) k.sentinel (k.lastWrite is) := by
  induction is generalizing s with
  | nil => cases h; cases k <;> rfl
  | cons i is ih =>
    obtain ⟨u, hexec, hrest⟩ := execAll_cons_eq_next h
    rw [ih hrest, exec_bit k hexec, keyAfter_keyAfter, Key.lastWrite_cons]

/-- Settles O19: one induction over the sequence, for each of the three keys. -/
theorem unlockDependsOnLastKeyWrites : Obligations.UnlockDependsOnLastKeyWrites := fun _ _ _ h =>
  ⟨execAll_bit .region h, execAll_bit .param h, execAll_bit .global h, rfl⟩

/-! The unlock mask (R23, R125) -/

/-- Setting or clearing a key replaces the mask's bit at the key's place. -/
theorem Key.unlockMask_put (k : Key) (b : Bool) (s : State) :
    (k.put b s).unlockMask = (s.unlockMask &&& ~~~(1#3 <<< k.place)) ||| ((if b then 1#3 else 0#3) <<< k.place) := by
  cases k <;>
  · simp only [State.unlockMask, Key.put, Key.place]
    generalize s.keyGlobal = g, s.keyParam = p, s.keyRegion = r
    revert g p r b
    decide

/-- A key write moves the mask by R125's formula. -/
theorem exec_keyWrite_unlockMask (k : Key) (sz : Width) (v : Word) (s : State) :
    ∃ t, exec (k.write sz v) s = .next t ∧ t.unlockMask =
      (s.unlockMask &&& ~~~(1#3 <<< k.place)) ||| ((if v = k.sentinel then 1#3 else 0#3) <<< k.place) := by
  refine ⟨_, exec_keyWrite k sz v s, (k.unlockMask_put (v == k.sentinel) s).trans ?_⟩
  simp only [beq_iff_eq]

/-- Some word answers the comparison with a sentinel either way. -/
theorem exists_beq_eq (sent : Word) (b : Bool) : ∃ d : Word, (d == sent) = b := by
  cases b with
  | true => exact ⟨sent, beq_self_eq_true sent⟩
  | false => exact ⟨sent + 1, by simp⟩

/-- A mask is its three bits, the global key's first (R23). -/
theorem unlockMask_bits (m : BitVec 3) : BitVec.ofBool m[2] ++ BitVec.ofBool m[1] ++ BitVec.ofBool m[0] = m := by
  revert m; decide

/-- The three key writes, one after the other, reach every mask from every state. -/
theorem exists_keyWrites_unlockMask (s : State) (m : BitVec 3) : ∃ (a b c : Word) (t : State),
    execAll [Key.region.write .w4 a, Key.param.write .w4 b, Key.global.write .w4 c] s = .next t ∧ t.unlockMask = m := by
  obtain ⟨a, ha⟩ := exists_beq_eq sentRegion m[0]
  obtain ⟨b, hb⟩ := exists_beq_eq sentParam m[1]
  obtain ⟨c, hc⟩ := exists_beq_eq sentGlobal m[2]
  refine ⟨a, b, c, _, rfl, ?_⟩
  change BitVec.ofBool (c == sentGlobal) ++ BitVec.ofBool (b == sentParam) ++ BitVec.ofBool (a == sentRegion) = m
  rw [ha, hb, hc]
  exact unlockMask_bits m

/-- The gate is open in the mask with all three bits alone (R123, R125). -/
theorem State.unlocked_iff_unlockMask (s : State) : s.unlocked = true ↔ s.unlockMask = 7 := by
  rw [State.unlocked, State.unlockMask]
  generalize s.keyGlobal = g, s.keyParam = p, s.keyRegion = r
  revert g p r
  decide

/-- Settles O18: the mask's rule for each key, the words that reach a mask bit by bit, and the mask of the open gate. -/
theorem unlockMaskTransition : Obligations.UnlockMaskTransition := by
  refine ⟨fun sz v s p hp => ?_, exists_keyWrites_unlockMask, State.unlocked_iff_unlockMask⟩
  simp only [List.mem_cons, List.not_mem_nil, or_false] at hp
  rcases hp with rfl | rfl | rfl
  · exact exec_keyWrite_unlockMask .region sz v s
  · exact exec_keyWrite_unlockMask .param sz v s
  · exact exec_keyWrite_unlockMask .global sz v s

end Sys2Proof.Machine

/-! PROOFS. The staging windows (42_page_buffer.md): the fields of a staging offset, a staged word byte by byte, and the six forms of access. -/

namespace Sys2Proof

/-- Two low bits 0 is a multiple of 4 (R146). -/
theorem Offset.aligned_iff (off : Offset) : Offset.aligned off = true ↔ off.toNat % 4 = 0 := by
  rw [Offset.aligned, beq_iff_eq, ← BitVec.toNat_inj, BitVec.extractLsb'_toNat, Nat.shiftRight_zero]
  rfl

/-- A well-formed instruction is in its own row, and its offset is in its window (R51, R72). -/
theorem Instr.inRow_and_off_lt_of_wellFormed {c : Config} {i : Instr} (h : i.wellFormed c = true) :
    i.inRow = true ∧ i.txn.off.toNat < c.winSize i.txn.win := by
  obtain ⟨hrow, hok⟩ := Bool.and_eq_true_iff.1 h
  rw [Instr.descriptorOk_eq_txn] at hok
  exact ⟨hrow, ((Txn.descriptorOk_iff c i.txn).1 hok).1⟩

/-- An aligned word that starts inside a region of a legal size ends inside it, since the size is a multiple of 4 (R7, R142). -/
theorem Offset.word_end_le {off : Offset} {n : Nat} (ha : Offset.aligned off = true) (hn : Config.legalSize n = true)
    (hoff : off.toNat < n) : off.toNat + 4 ≤ n := by
  have hoff4 := (Offset.aligned_iff off).1 ha
  simp only [Config.legalSize, Bool.and_eq_true, decide_eq_true_eq, beq_iff_eq] at hn
  omega

end Sys2Proof

namespace Sys2Proof.Machine

/-! The operands (R73) and the page buffer (R141) -/

/-- The page offset is the offset modulo 512. -/
theorem pageOffset_eq_mod (off : Offset) : pageOffset off = off.toNat % 512 := BitVec.extractLsb'_toNat 0 9 off

/-- The recorded address is the whole offset. -/
theorem stagedAddr_eq_ofNat (off : Offset) : stagedAddr off = BitVec.ofNat 32 off.toNat := (BitVec.ofNat_toNat 32 off).symm

/-- A staged word byte by byte: its own four places are told apart, and every other byte stays. -/
theorem stageWord_getElem (pb : Vector Byte 512) (po : Nat) (data : Word) (k : Nat) (hk : k < 512) :
    (stageWord pb po data)[k] =
      if k = po then data.extractLsb' 24 8
      else if k = po + 1 then data.extractLsb' 16 8
      else if k = po + 2 then data.extractLsb' 8 8
      else if k = po + 3 then data.extractLsb' 0 8
      else pb[k] := by
  simp only [stageWord, Vector.getElem_setIfInBounds]
  grind

/-- A value truncated to an access has the access's width (R53). -/
theorem truncRead_lt (sz : Width) (v : Word) : (truncRead sz v).toNat < 2 ^ (8 * widthBytes sz) := by
  cases sz with
  | w1 | w2 =>
    rw [truncRead, BitVec.toNat_setWidth]
    exact (Nat.mod_le ..).trans_lt (BitVec.isLt _)
  | w4 => exact v.isLt

/-! The aligned stores (R140, R141, R142) -/

/-- An aligned store to CODE is the staging store of UserCode (R146). -/
theorem exec_stgCodeSt4 (off : Offset) (data : Word) (s : State) :
    exec (.stgCodeSt4 off data) s = .next (stageStore .code .userCode off data s) := rfl

/-- An aligned store to PARAM is the staging store of UserParam (R147). -/
theorem exec_stgParamSt4 (off : Offset) (data : Word) (s : State) :
    exec (.stgParamSt4 off data) s = .next (stageStore .param .userParam off data s) := rfl

/-- Settles O21: with a key missing the gate is closed, and both stores are dropped at it. -/
theorem lockedStagingDropped : Obligations.LockedStagingDropped := by
  intro off data s hkeys i hi
  have hu : s.unlocked = false := Bool.eq_false_iff.2 (mt s.unlocked_iff.1 hkeys)
  rcases List.mem_pair.1 hi with rfl | rfl
  · rw [exec_stgCodeSt4, stageStore_of_locked .code .userCode off data hu]; rfl
  · rw [exec_stgParamSt4, stageStore_of_locked .param .userParam off data hu]; rfl

/-- Settles O22: past the gate and the bounds check both stores stage their word, which changes four bytes and the pointer. -/
theorem acceptedStagingStore : Obligations.AcceptedStagingStore := by
  intro off data s hregion hparam hglobal _ p hp hend
  have hu : s.unlocked = true := s.unlocked_iff.2 ⟨hregion, hparam, hglobal⟩
  have hexec : exec p.1 s = .next ((s.stage p.2 off data).respond .done) := by
    rcases List.mem_pair.1 hp with rfl | rfl
    · rw [exec_stgCodeSt4, stageStore_of_inBounds .code data hu (Nat.not_lt.2 hend)]
    · rw [exec_stgParamSt4, stageStore_of_inBounds .param data hu (Nat.not_lt.2 hend)]
  refine ⟨_, hexec, fun k hk => ?_, ?_⟩
  · rw [← pageOffset_eq_mod]
    exact stageWord_getElem s.pagebuf (pageOffset off) data k hk
  · rw [← stagedAddr_eq_ofNat]
    rfl

/-- Settles O23: the bounds check is each window's own, and no aligned offset inside a legal region meets it. -/
theorem stagingBoundsCheck : Obligations.StagingBoundsCheck := by
  refine ⟨fun off data s hregion hparam hglobal => ?_, fun off data c hc => ⟨fun hwf => ?_, fun hwf => ?_⟩⟩
  · have hu : s.unlocked = true := s.unlocked_iff.2 ⟨hregion, hparam, hglobal⟩
    refine ⟨fun hend => ?_, fun hend => ?_⟩
    · rw [exec_stgCodeSt4, stageStore_of_outOfBounds (r := .userCode) .code data hu hend]; rfl
    · rw [exec_stgParamSt4, stageStore_of_outOfBounds (r := .userParam) .param data hu hend]; rfl
  · obtain ⟨haligned, hoff⟩ := Instr.inRow_and_off_lt_of_wellFormed hwf
    exact Offset.word_end_le haligned (Config.wf_size hc .userCode) hoff
  · obtain ⟨haligned, hoff⟩ := Instr.inRow_and_off_lt_of_wellFormed hwf
    exact Offset.word_end_le haligned (Config.wf_size hc .userParam) hoff

/-! The other accesses of a staging window (R143, R144, R145) -/

/-- Settles O24: both stores refuse without a look at the keys, and stand in their rows where the offset is not aligned. -/
theorem misalignedStagingRefused : Obligations.MisalignedStagingRefused := by
  intro off data s i hi
  have hrow : i.inRow = !Offset.aligned off := by
    rcases List.mem_pair.1 hi with rfl | rfl <;> rfl
  refine ⟨?_, ?_⟩
  · rcases List.mem_pair.1 hi with rfl | rfl <;> rfl
  · rw [hrow, Bool.not_eq_true', Bool.eq_false_iff]
    exact not_congr (Offset.aligned_iff off)

/-- Settles O25: both writes answer with the bus's code without a look at the keys, and stand in their rows at every width but 4. -/
theorem narrowStagingWriteDropped : Obligations.NarrowStagingWriteDropped := by
  intro sz off data s i hi
  have hrow : i.inRow = (sz != .w4) := by
    rcases List.mem_pair.1 hi with rfl | rfl <;> rfl
  refine ⟨?_, ?_⟩
  · rcases List.mem_pair.1 hi with rfl | rfl <;> rfl
  · rw [hrow]
    cases sz <;> decide

/-- Settles O26: both reads complete with the next draw, truncated to the access. -/
theorem stagingReadReturnsSomeValue : Obligations.StagingReadReturnsSomeValue := by
  intro sz off data s i hi
  refine ⟨truncRead sz (Config.drawRead s.draws), truncRead_lt sz _, ?_⟩
  rcases List.mem_pair.1 hi with rfl | rfl <;> rfl

end Sys2Proof.Machine

/-! PROOFS. The operation executor (43_operation_executor.md): the sixteen triggers by opcode, the preconditions, the bad magic, the operations on a target page, and what no operation changes. -/

namespace Sys2Proof.Machine

/-! The triggers, by opcode, so that each rule of R160 to R174 is said once -/

/-- The trigger of opcode `n`: what a write of its word to NVM_OPCODE decodes to (R74). -/
def trigger (sz : Width) (n : BitVec 4) : Instr := decodeOpcode sz (opWord n)

/-- A trigger's transaction is the write of its word to NVM_OPCODE. -/
theorem trigger_txn (sz : Width) (n : BitVec 4) : (trigger sz n).txn = .narrow .reg .wr sz offOpcode (opWord n) :=
  (decodeOpcode_isRowOf sz (opWord n)).1

/-- A trigger is no bad magic. -/
theorem trigger_not_misplaced (sz : Width) (n : BitVec 4) : ¬misplacedMagic (trigger sz n) := by
  obtain ⟨-, hrow⟩ := decodeOpcode_isRowOf sz (opWord n)
  rintro ⟨hno, -⟩
  exact Bool.false_ne_true (hno.symm.trans hrow)

/-- No trigger is an access of another place than NVM_OPCODE. -/
theorem trigger_ne {sz : Width} {n : BitVec 4} {i : Instr} (h : i.txn.win ≠ .reg ∨ i.txn.off ≠ offOpcode) :
    trigger sz n ≠ i := by
  rintro rfl
  rw [trigger_txn] at h
  exact h.elim (· rfl) (· rfl)

/-- A trigger tells its width. -/
theorem trigger_width {sz sz' : Width} {n n' : BitVec 4} (h : trigger sz n = trigger sz' n') : sz = sz' := by
  have htxn := congrArg (fun i => i.txn.sz) h
  simp only [trigger_txn] at htxn
  cases htxn
  rfl

/-- Every write of NVM_OPCODE, whatever row it stands in, runs the one operation trigger on its data (R160). -/
theorem exec_decodeOpcode (sz : Width) (data : Word) (s : State) : exec (decodeOpcode sz data) s = opTrigger sz data s := by
  unfold decodeOpcode
  iterate 16
    refine iteInduction (motive := fun i : Instr => exec i s = opTrigger sz data s)
      (fun hdata => by rw [hdata]; rfl) fun _ => ?_
  rfl

/-- Every trigger runs the operation trigger on its word. -/
theorem exec_trigger (sz : Width) (n : BitVec 4) (s : State) : exec (trigger sz n) s = opTrigger sz (opWord n) s :=
  exec_decodeOpcode sz (opWord n) s

/-- The page programs are opcodes 4, 5, 12 and 14 (R170 to R173). -/
theorem programTriggers_eq (sz : Width) :
    programTriggers sz = ([0x4, 0x5, 0xC, 0xE] : List (BitVec 4)).map (trigger sz) := rfl

/-- The unimplemented triggers are the ten opcodes R174 lists. -/
theorem unimplTriggers_eq (sz : Width) :
    unimplTriggers sz =
      ([0x0, 0x1, 0x3, 0x6, 0x7, 0x8, 0x9, 0xB, 0xD, 0xF] : List (BitVec 4)).map (trigger sz) := rfl

/-- The triggers with good magic, in the model's order: the six with an effect, then the ten unimplemented (R74). -/
theorem goodTriggers_eq (sz : Width) :
    goodTriggers sz =
      ([0x2, 0xA, 0x4, 0x5, 0xC, 0xE, 0x0, 0x1, 0x3, 0x6, 0x7, 0x8, 0x9, 0xB, 0xD, 0xF] : List (BitVec 4)).map
        (trigger sz) := rfl

/-- A trigger with good magic is the trigger of an opcode. -/
theorem exists_opcode_of_mem_goodTriggers {sz : Width} {i : Instr} (hi : i ∈ goodTriggers sz) : ∃ n, trigger sz n = i := by
  rw [goodTriggers_eq] at hi
  obtain ⟨n, -, hn⟩ := List.mem_map.1 hi
  exact ⟨n, hn⟩

/-- The page erase and the page programs are among the sixteen triggers. -/
theorem mem_goodTriggers_of_writes_page {sz : Width} {i : Instr}
    (hi : i = .nvmOpPageerase sz ∨ i ∈ programTriggers sz) : i ∈ goodTriggers sz :=
  List.mem_append_left _ (List.mem_cons_of_mem _ (List.mem_cons.2 hi))

/-! The preconditions (R162 to R165) -/

/-- Where no page is a target, a trigger is rejected for the first precondition that fails, whatever its opcode (R165). -/
theorem trigger_rejectsUntargeted (s : State) (sz : Width) (n : BitVec 4) : s.rejectsUntargeted sz (trigger sz n) := by
  intro huntargeted
  obtain ⟨hmagic, -⟩ := opWord_fields n
  rw [trigger_txn, exec_trigger, opTrigger, if_neg (not_not.2 hmagic), opTarget_untargeted huntargeted]
  rfl

/-- Each of the sixteen triggers is rejected where no page is a target (R165). -/
theorem rejectsUntargeted_of_mem_goodTriggers {sz : Width} {i : Instr} (hi : i ∈ goodTriggers sz) (s : State) :
    s.rejectsUntargeted sz i := by
  obtain ⟨n, rfl⟩ := exists_opcode_of_mem_goodTriggers hi
  exact trigger_rejectsUntargeted s sz n

/-- Settles O29: a missing key is the first precondition, so no page is a target and the reason is OP_LOCKED. -/
theorem lockedTriggerRejected : Obligations.LockedTriggerRejected := by
  intro sz s hlocked i hi
  have hreason : s.failedPrecondition = .opLocked := if_pos hlocked
  rw [← hreason]
  exact rejectsUntargeted_of_mem_goodTriggers hi s fun r a ⟨hkeys, _⟩ => hlocked hkeys

/-- An instruction stages no region, or a recognized one (R26, R141). -/
theorem Effect.stgRegion_cases {i : Instr} {s t : State} (h : Effect i s t) :
    t.stgRegion = s.stgRegion ∨ ∃ r, t.stgRegion = some r := by
  cases h with
  | stage r off d => exact .inr ⟨r, by simp⟩
  | pageWrite => exact .inl (by simp)
  | _ => exact .inl rfl

/-- Settles O30: past the keys the staged region decides; and of all steps only RESET may leave it unrecognized, since a staging store records its own window's region. -/
theorem unrecognizedRegionRejected : Obligations.UnrecognizedRegionRejected := by
  refine ⟨fun sz s hregion hparam hglobal hnone i hi => ?_, fun s t hstep hsome hnoReset => ?_⟩
  · have hreason : s.failedPrecondition = .opBadRegion :=
      (if_neg (not_not.2 ⟨hregion, hparam, hglobal⟩)).trans (if_pos hnone)
    rw [← hreason]
    refine rejectsUntargeted_of_mem_goodTriggers hi s fun r a ⟨_, hr, _⟩ => ?_
    rw [hnone] at hr
    cases hr
  · rcases step_controller_cases hstep with ⟨rest, hreset, -⟩ | ⟨i, rest, -, heff⟩ | hsame
    · exact absurd hreset (hnoReset rest)
    · rcases heff.stgRegion_cases with he | ⟨r, he⟩
      · exact he ▸ hsome
      · exact he ▸ Option.some_ne_none r
    · exact hsame.stgRegion ▸ hsome

/-- The page of a staged address starts no higher than the offset the store wrote (R164). -/
theorem pageBase_stagedAddr_le (off : Offset) : (pageBase (stagedAddr off)).toNat ≤ off.toNat := by
  rw [pageBase, BitVec.toNat_and, stagedAddr, BitVec.toNat_setWidth_of_le (by decide)]
  exact Nat.and_le_left

/-- Settles O31: past the keys and the region the page decides; a page starts at a multiple of its size, as a legal region ends; and a well-formed store stands in its window. -/
theorem outOfRangePageRejected : Obligations.OutOfRangePageRejected := by
  refine ⟨fun sz s r hregion hparam hglobal hr hout i hi => ?_, fun s r a hc ht => ?_, fun c off d => ⟨fun hwf => ?_, fun hwf => ?_⟩⟩
  · have hreason : s.failedPrecondition = .opOutOfRange :=
      (if_neg (not_not.2 ⟨hregion, hparam, hglobal⟩)).trans (if_neg (by rw [hr]; exact Option.some_ne_none r))
    rw [← hreason]
    refine rejectsUntargeted_of_mem_goodTriggers hi s fun q a ⟨_, hq, ha, hlt⟩ => ?_
    obtain rfl : r = q := Option.some.inj (hr.symm.trans hq)
    exact absurd hout (Nat.not_le.2 (ha ▸ hlt))
  · refine ⟨?_, targets_in_region hc ht⟩
    obtain ⟨-, -, rfl, -⟩ := ht
    exact pageBase_mod s.stgAddr
  · obtain ⟨-, hoff⟩ := Instr.inRow_and_off_lt_of_wellFormed hwf
    exact (pageBase_stagedAddr_le off).trans_lt hoff
  · obtain ⟨-, hoff⟩ := Instr.inRow_and_off_lt_of_wellFormed hwf
    exact (pageBase_stagedAddr_le off).trans_lt hoff

/-! The magic (R161) -/

/-- The magic field is the data without its low four bits (R73). -/
theorem opcodeMagic_toNat (data : Word) : (opcodeMagic data).toNat = data.toNat / 16 := by
  have hlt := data.isLt
  rw [opcodeMagic, BitVec.extractLsb'_toNat, Nat.shiftRight_eq_div_pow]
  omega

/-- Settles O28: the magic is the first check, before the keys. -/
theorem badMagicRejected : Obligations.BadMagicRejected := by
  intro sz data s hdata
  have hmagic : opcodeMagic data ≠ opMagic := fun h => hdata (by rw [← opcodeMagic_toNat, h]; rfl)
  exact ⟨rfl, if_pos hmagic⟩

/-! The operations on a target page (R166 to R174) -/

/-- With a target page, a trigger runs the operation of its opcode on it (R165). -/
theorem exec_trigger_of_targets {s : State} {r : Region} {a : Nat} (h : s.targets r a) (sz : Width) (n : BitVec 4) :
    exec (trigger sz n) s =
      if n = 0x2 then bufferErase s
      else if n = 0xA then pageErase r a s
      else if n = 0x4 ∨ n = 0x5 ∨ n = 0xC ∨ n = 0xE then pageProgram r a s
      else .next (s.rejected .opUnimplemented .reg offOpcode sz (opWord n)) := by
  obtain ⟨hmagic, hfield⟩ := opWord_fields n
  rw [exec_trigger, opTrigger, if_neg (not_not.2 hmagic), opTarget_ok.2 h]
  simp only [hfield]

/-- With a target page, the page erase's trigger erases it. -/
theorem exec_pageerase_of_targets {s : State} {r : Region} {a : Nat} (h : s.targets r a) (sz : Width) :
    exec (trigger sz 0xA) s = pageErase r a s := by
  rw [exec_trigger_of_targets h, if_neg (by decide), if_pos rfl]

/-- With a target page, each of the four page programs programs it: they are one operation (R171 to R173). -/
theorem exec_of_mem_programTriggers {s : State} {r : Region} {a : Nat} (h : s.targets r a) {sz : Width} {i : Instr}
    (hi : i ∈ programTriggers sz) : exec i s = pageProgram r a s := by
  rw [programTriggers_eq] at hi
  obtain ⟨n, hn, rfl⟩ := List.mem_map.1 hi
  have hops : ∀ m ∈ ([0x4, 0x5, 0xC, 0xE] : List (BitVec 4)),
      m ≠ 0x2 ∧ m ≠ 0xA ∧ (m = 0x4 ∨ m = 0x5 ∨ m = 0xC ∨ m = 0xE) := by decide
  obtain ⟨h2, hA, hp⟩ := hops n hn
  rw [exec_trigger_of_targets h, if_neg h2, if_neg hA, if_pos hp]

/-- With a target page, each of the ten other opcodes is rejected: the dispatch finds none of the six with an effect (R174). -/
theorem exec_of_mem_unimplTriggers {s : State} {r : Region} {a : Nat} (h : s.targets r a) {sz : Width} {i : Instr}
    (hi : i ∈ unimplTriggers sz) : exec i s = .next (s.rejected .opUnimplemented .reg offOpcode sz i.txn.data) := by
  rw [unimplTriggers_eq] at hi
  obtain ⟨n, hn, rfl⟩ := List.mem_map.1 hi
  have hops : ∀ m ∈ ([0x0, 0x1, 0x3, 0x6, 0x7, 0x8, 0x9, 0xB, 0xD, 0xF] : List (BitVec 4)),
      m ≠ 0x2 ∧ m ≠ 0xA ∧ ¬(m = 0x4 ∨ m = 0x5 ∨ m = 0xC ∨ m = 0xE) := by decide
  obtain ⟨h2, hA, hp⟩ := hops n hn
  rw [exec_trigger_of_targets h, if_neg h2, if_neg hA, if_neg hp, trigger_txn, Txn.narrow]

/-- Settles O32: opcode 2 fills the buffer and touches no other field. -/
theorem bufferEraseFillsBuffer : Obligations.BufferEraseFillsBuffer := by
  intro sz s
  refine ⟨rfl, fun r a ht => ?_, trigger_rejectsUntargeted s sz 0x2⟩
  exact ⟨_, exec_trigger_of_targets ht sz 0x2, fun k hk => Vector.getElem_replicate hk, rfl⟩

/-- Completing an operation leaves what the read port shows. -/
@[simp] theorem State.opDone_storeRead (s : State) (r : Region) (x : Nat) : s.opDone.storeRead r x = s.storeRead r x :=
  State.storeRead_congr (by simp) (by simp) x

/-- With a legal configuration, a page write at the target completes: the read port shows the bytes in the page and the old ones elsewhere, and but for that region's array only `eint`, the answer and the index are new (R168, R170). -/
theorem writePage_of_targets {s : State} {r : Region} {a : Nat} {bs : List Byte} (hc : s.cfg.wf = true)
    (ht : s.targets r a) (hl : bs.length = 512) :
    ∃ t, writePage r a bs s = .next t ∧
      (∀ x, t.storeRead r x = if a ≤ x ∧ x < a + 512 then bs[x - a]? else s.storeRead r x) ∧
      t.setStorage r (s.storage r) = { s with eint := true, response := .done, index := s.index + 1 } := by
  have hin := targets_in_region hc ht
  rcases writePage_cases r a bs s with ⟨hb, he⟩ | ⟨hout, -⟩
  · refine ⟨_, he, fun x => ?_, by cases r <;> rfl⟩
    have hread := State.memWrite_storeRead (show s.memWrite r a bs = some _ from if_pos hb) r x
    simpa [hl] using hread
  · omega

/-- An erased page at any index reads 0xFF (R8, R168). -/
theorem erasedPage_getElem? {k : Nat} (h : k < 512) : erasedPage[k]? = some 0xFF := by
  rw [erasedPage, List.getElem?_replicate_of_lt h, erased]

/-- Settles O33: opcode 10 is a page write of 512 erased bytes. -/
theorem pageEraseErasesTargetPage : Obligations.PageEraseErasesTargetPage := by
  intro sz s hc
  refine ⟨rfl, fun r a ht => ?_, trigger_rejectsUntargeted s sz 0xA⟩
  obtain ⟨t, hw, hread, hframe⟩ := writePage_of_targets hc ht erasedPage_length
  refine ⟨t, (exec_pageerase_of_targets ht sz).trans hw, fun x _ => ?_, hframe⟩
  rw [hread x]
  split
  · exact erasedPage_getElem? (by omega)
  · rfl

/-- Settles O34: the four programs are one page write of the buffer's bytes. -/
theorem pageProgramCopiesBuffer : Obligations.PageProgramCopiesBuffer := by
  intro sz s hc
  refine ⟨rfl, fun r a ht => ?_, fun i hi => ?_⟩
  · obtain ⟨t, hw, hread, hframe⟩ := writePage_of_targets hc ht (pagebuf_length s)
    refine ⟨t, fun i hi => (exec_of_mem_programTriggers ht hi).trans hw, fun k hk => ?_,
      fun x hx => (hread x).trans (if_neg hx), hframe⟩
    rw [hread, if_pos (by omega), Nat.add_sub_cancel_left]
    simp [hk]
  · exact rejectsUntargeted_of_mem_goodTriggers (mem_goodTriggers_of_writes_page (.inr hi)) s

/-- Settles O35: with a target page by the dispatch, and without one by the preconditions, which come before it. -/
theorem unimplementedOpcodeRejected : Obligations.UnimplementedOpcodeRejected := by
  intro sz s
  refine ⟨rfl, fun i hi => ⟨fun r a ht => exec_of_mem_unimplTriggers ht hi, ?_⟩⟩
  exact rejectsUntargeted_of_mem_goodTriggers (List.mem_append_right _ hi) s

/-! What no operation changes (R167) -/

/-- An instruction of another window than the UART's leaves the UART and its channels. -/
theorem Effect.uart_eq {i : Instr} {s t : State} (h : Effect i s t) (hw : i.txn.win ≠ .uart) :
    t.rxByte = s.rxByte ∧ t.rxr = s.rxr ∧ t.txs = s.txs ∧ t.txReady = s.txReady ∧ t.txOut = s.txOut := by
  cases h with
  | uartStatusWr _ _ hi | uartRxdataRd _ _ hi | transmit _ _ hi => subst hi; exact absurd rfl hw
  | stage | pageWrite => simp
  | _ => exact ⟨rfl, rfl, rfl, rfl, rfl⟩

/-- Settles O36: the frame of every effect, narrowed by what a trigger is not: no key write, no staging store, no UART access and no bad magic. -/
theorem operationFrame : Obligations.OperationFrame := by
  intro sz s t i hi hexec
  have heff := exec_effect hexec
  obtain ⟨n, rfl⟩ := exists_opcode_of_mem_goodTriggers hi
  have hmagic := trigger_not_misplaced sz n
  obtain ⟨hregion, hparam, hglobal⟩ := heff.keys_cases
  have hkeys : t.keyRegion = s.keyRegion ∧ t.keyParam = s.keyParam ∧ t.keyGlobal = s.keyGlobal :=
    ⟨hregion.resolve_right fun ⟨_, _, h⟩ => absurd h (trigger_ne (.inr (show offKeyRegion ≠ offOpcode by decide))),
      hparam.resolve_right fun ⟨_, _, h⟩ => absurd h (trigger_ne (.inr (show offKeyParam ≠ offOpcode by decide))),
      hglobal.resolve_right fun ⟨_, _, h⟩ => absurd h (trigger_ne (.inr (show offKeyGlobal ≠ offOpcode by decide)))⟩
  obtain ⟨hpointer, hbuffer⟩ : (t.stgRegion = s.stgRegion ∧ t.stgAddr = s.stgAddr) ∧
      (trigger sz n ≠ .nvmOpBuferase sz → t.pagebuf = s.pagebuf) := by
    rcases heff.staging_cases hmagic with ⟨hpb, hsr, hsa⟩ | ⟨-, off, d, h | h⟩ | ⟨-, hsr, hsa, sz', h⟩
    · exact ⟨⟨hsr, hsa⟩, fun _ => hpb⟩
    · exact absurd h (trigger_ne (.inl (show Window.code ≠ .reg by decide)))
    · exact absurd h (trigger_ne (.inl (show Window.param ≠ .reg by decide)))
    · obtain rfl : sz = sz' := trigger_width (n' := 0x2) h
      exact ⟨⟨hsr, hsa⟩, fun hne => absurd h hne⟩
  have huart := heff.uart_eq (by rw [trigger_txn]; exact Window.noConfusion)
  refine ⟨hkeys, hpointer, huart, hbuffer, fun q x hne => ?_⟩
  obtain ⟨sz', a, hop, ht, hlo, hhi, -⟩ := heff.storeRead_ne hmagic hne
  obtain ⟨n', hn'⟩ := exists_opcode_of_mem_goodTriggers (mem_goodTriggers_of_writes_page hop)
  obtain rfl : sz' = sz := trigger_width hn'
  exact ⟨hop, a, ht, hlo, hhi⟩

end Sys2Proof.Machine

/-! PROOFS. The UART (44_uart.md): the three registers, the offsets with no register in the direction of the access, the transmit and the deliveries, and that the UART and the NVM controller know nothing of each other. -/

namespace Sys2Proof.Machine

/-! What one step does to the received byte and to the TX channel's readiness (R197, R198, R199) -/

/-- No instruction touches the received byte, the TX channel's readiness or the other agents' moves. -/
theorem Effect.channels_eq {i : Instr} {s t : State} (h : Effect i s t) :
    t.rxByte = s.rxByte ∧ t.txReady = s.txReady ∧ t.schedule = s.schedule := by
  cases h with
  | stage | pageWrite => simp
  | _ => exact ⟨rfl, rfl, rfl⟩

/-- A step takes its own move off the schedule and no other; only RESET and a delivery touch the received byte, and only the TX channel its readiness. -/
theorem step_channels_cases {s t : State} (h : step s = .next t) :
    ∃ m, s.moves m t.schedule ∧ (t.rxByte = s.rxByte ∨ m = .reset ∨ ∃ b, m = .rxDeliver b) ∧
      (t.txReady = s.txReady ∨ m = .txReady t.txReady) := by
  obtain ⟨m, rest, hmoves, hmove⟩ := step_cases h
  rcases hmove with ⟨-, -, rfl⟩ | ⟨-, -, rfl⟩ | ⟨-, i, -, hexec⟩ | ⟨b, rfl, rfl⟩ | ⟨ready, rfl, rfl⟩ | ⟨rfl, rfl⟩
  · exact ⟨m, hmoves, .inl rfl, .inl rfl⟩
  · exact ⟨m, hmoves, .inl rfl, .inl rfl⟩
  · obtain ⟨hbyte, hready, hschedule⟩ := (exec_effect hexec).channels_eq
    exact ⟨m, hschedule ▸ hmoves, .inl hbyte, .inl hready⟩
  · exact ⟨.rxDeliver b, hmoves, .inr (.inr ⟨b, rfl⟩), .inl rfl⟩
  · exact ⟨.txReady ready, hmoves, .inl rfl, .inr rfl⟩
  · exact ⟨.reset, by simpa using hmoves, .inr (.inl rfl), .inl (by simp)⟩

/-- The agent that moves next was enabled. -/
theorem State.moves.enabled {s : State} {m : Move} {rest : List Move} (h : s.moves m rest) : s.enabled m = true :=
  let ⟨_, hpick⟩ := h
  pickMove_enabled hpick

/-- The RX channel moves only while no received byte is unread (R198, R199). -/
theorem State.moves.rxr_eq_false {s : State} {b : Byte} {rest : List Move} (h : s.moves (.rxDeliver b) rest) :
    s.rxr = false := by
  have henabled := h.enabled
  simp only [State.enabled, Bool.and_eq_true, Bool.not_eq_true'] at henabled
  exact henabled.1

/-- The move of another agent leaves the RX channel the bytes it has, in their order. -/
theorem State.moves.deliveries_eq {s : State} {m : Move} {rest : List Move} (h : s.moves m rest)
    (hm : ∀ b, m ≠ .rxDeliver b) : deliveries rest = deliveries s.schedule := by
  obtain ⟨-, hpick⟩ := h
  rcases pickMove_cases s.enabled s.schedule with ⟨pre, m', post, hschedule, -, -, he⟩ | ⟨-, he⟩
  · obtain ⟨rfl, rfl⟩ := Prod.mk.inj (he.symm.trans hpick)
    rw [hschedule, deliveries, deliveries, List.filterMap_append, List.filterMap_append]
    cases m' with
    | rxDeliver b => exact absurd rfl (hm b)
    | guest | txReady | reset => rfl
  · obtain ⟨-, rfl⟩ := Prod.mk.inj (he.symm.trans hpick)
    rfl

/-- Settles O49: with a byte unread the step's move is no delivery, so the channel keeps its bytes, and only RESET is left to change the byte. -/
theorem unreadByteNeverOverwritten : Obligations.UnreadByteNeverOverwritten := by
  intro s t hrxr hstep
  obtain ⟨m, hmoves, hbyte, -⟩ := step_channels_cases hstep
  have hm : ∀ b, m ≠ .rxDeliver b := by
    rintro b rfl
    exact Bool.false_ne_true (hmoves.rxr_eq_false.symm.trans hrxr)
  refine ⟨hmoves.deliveries_eq hm, ?_⟩
  rcases hbyte with hbyte | rfl | ⟨b, rfl⟩
  · exact .inl hbyte
  · exact .inr ⟨_, hmoves⟩
  · exact absurd rfl (hm b)

/-- Settles O48: a delivery is enabled exactly while no byte is unread and no transmit holds, and it stores its byte. -/
theorem rxDeliveryStoresByte : Obligations.RxDeliveryStoresByte := by
  refine ⟨fun s b rest hmoves => ⟨hmoves.rxr_eq_false, step_of_moves hmoves⟩, fun s b rest hmark hrxr hhold hs => ?_⟩
  have henabled : s.enabled (.rxDeliver b) = true := by simp [State.enabled, State.holding, hrxr, hhold]
  exact ⟨hmark, by rw [hs, pickMove, if_pos henabled]⟩

/-! The transmit (R196, R197) -/

/-- While the channel accepts, the transmit hands its byte over and completes. -/
theorem exec_uartTxdataWr_of_ready {s : State} (sz : Width) (data : Word) (h : s.txReady = true) :
    exec (.uartTxdataWr sz data) s = .next ({ s with txs := true, txOut := s.txOut ++ [txByte data] }.respond .done) :=
  if_pos h

/-- While the channel does not accept, the transmit holds. -/
theorem exec_uartTxdataWr_of_not_ready {s : State} (sz : Width) (data : Word) (h : s.txReady = false) :
    exec (.uartTxdataWr sz data) s = .next s.held :=
  if_neg (Bool.eq_false_iff.1 h)

/-- Settles O46: the transmit's rule with the channel ready; its byte is the data modulo 256. -/
theorem transmitHandsOverByte : Obligations.TransmitHandsOverByte :=
  fun sz data _ hready => ⟨rfl, exec_uartTxdataWr_of_ready sz data hready⟩

/-- Settles O47: with the channel not ready the transmit's rule is `hold`, which disables the delivery and RESET; and of all moves the channel's alone sets its readiness. -/
theorem transmitHoldsUntilAccepted : Obligations.TransmitHoldsUntilAccepted := by
  refine ⟨fun sz data s hready => exec_uartTxdataWr_of_not_ready sz data hready, fun s m rest hhold hmoves => ?_,
    fun s ready rest hmoves => step_of_moves hmoves, fun s t hstep hne => ?_⟩
  · have henabled := hmoves.enabled
    cases m with
    | guest => exact .inl rfl
    | txReady ready => exact .inr ⟨ready, rfl⟩
    | rxDeliver | reset => simp [State.enabled, State.holding, hhold] at henabled
  · obtain ⟨m, hmoves, -, hready⟩ := step_channels_cases hstep
    obtain rfl := hready.resolve_left hne
    exact ⟨_, hmoves⟩

/-! The UART and the NVM controller (44_uart.md, R167, R200): each side's fields replaced as a whole -/

/-- The UART's fields of the state: its registers (R28) and its TX channel (R196, R197). -/
structure UartSide where
  rxByte : Byte
  rxr : Bool
  txs : Bool
  txReady : Bool
  txOut : List Byte

/-- The NVM controller's fields of the state: the keys, `eint`, the page buffer, the staging pointer and storage (R23 to R27). -/
structure ControllerSide where
  keyRegion : Bool
  keyParam : Bool
  keyGlobal : Bool
  eint : Bool
  pagebuf : Vector Byte 512
  stgRegion : Option Region
  stgAddr : Word
  storageCode : Memory
  storageParam : Memory

/-- The state with another UART. -/
def State.putUart (s : State) (u : UartSide) : State :=
  { s with rxByte := u.rxByte, rxr := u.rxr, txs := u.txs, txReady := u.txReady, txOut := u.txOut }

/-- The state with another NVM controller. -/
def State.putController (s : State) (c : ControllerSide) : State :=
  { s with
    keyRegion := c.keyRegion, keyParam := c.keyParam, keyGlobal := c.keyGlobal, eint := c.eint, pagebuf := c.pagebuf
    stgRegion := c.stgRegion, stgAddr := c.stgAddr, storageCode := c.storageCode, storageParam := c.storageParam }

/-- Another UART changes no region's array. -/
@[simp] theorem State.putUart_storage (s : State) (u : UartSide) (r : Region) : (s.putUart u).storage r = s.storage r := by
  cases r <;> rfl

/-- Another UART is put in before or after a region's array is replaced. -/
theorem State.putUart_setStorage (s : State) (u : UartSide) (r : Region) (m : Memory) :
    (s.putUart u).setStorage r m = (s.setStorage r m).putUart u := by
  cases r <;> rfl

/-- A page write neither reads nor writes the UART. -/
theorem writePage_putUart (r : Region) (a : Nat) (bs : List Byte) (s : State) (u : UartSide) :
    writePage r a bs (s.putUart u) = mapNext (·.putUart u) (writePage r a bs s) := by
  by_cases hb : a + bs.length ≤ s.cfg.size r
  · have hb' : a + bs.length ≤ (s.putUart u).cfg.size r := hb
    rw [writePage, writePage, State.memWrite, State.memWrite, if_pos hb, if_pos hb', State.putUart_storage,
      State.putUart_setStorage]
    rfl
  · have hb' : ¬a + bs.length ≤ (s.putUart u).cfg.size r := hb
    rw [writePage, writePage, State.memWrite, State.memWrite, if_neg hb, if_neg hb']
    rfl

/-- An operation trigger neither reads nor writes the UART: it reads the preconditions, and acts on the page buffer or on a page (R167). -/
theorem opTrigger_putUart (sz : Width) (data : Word) (s : State) (u : UartSide) :
    opTrigger sz data (s.putUart u) = mapNext (·.putUart u) (opTrigger sz data s) := by
  have htarget : opTarget (s.putUart u) = opTarget s := opTarget_congr rfl rfl rfl rfl
  unfold opTrigger
  rw [htarget]
  by_cases hm : opcodeMagic data ≠ opMagic
  · rw [if_pos hm, if_pos hm]
    rfl
  · rw [if_neg hm, if_neg hm]
    cases opTarget s with
    | error reason => rfl
    | ok target =>
      obtain ⟨r, a⟩ := target
      dsimp only
      split_ifs
      · rfl
      · exact writePage_putUart r a erasedPage s u
      · exact writePage_putUart r a s.pagebuf.toList s u
      · rfl

/-- A staging store neither reads nor writes the UART. -/
theorem stageStore_putUart (win : Window) (r : Region) (off : Offset) (data : Word) (s : State) (u : UartSide) :
    stageStore win r off data (s.putUart u) = (stageStore win r off data s).putUart u := by
  cases hu : s.unlocked with
  | false =>
    have hu' : (s.putUart u).unlocked = false := hu
    rw [stageStore_of_locked win r off data hu, stageStore_of_locked win r off data hu']
    rfl
  | true =>
    have hu' : (s.putUart u).unlocked = true := hu
    by_cases hb : s.cfg.size r < off.toNat + 4
    · rw [stageStore_of_outOfBounds win data hu hb, stageStore_of_outOfBounds win data hu' hb]
      rfl
    · rw [stageStore_of_inBounds win data hu hb, stageStore_of_inBounds win data hu' hb]
      rfl

/-- A transaction of another window neither reads nor writes the UART. -/
theorem exec_putUart {i : Instr} (hw : i.txn.win ≠ .uart) (s : State) (u : UartSide) :
    exec i (s.putUart u) = mapNext (·.putUart u) (exec i s) := by
  cases i with
  | nvmOpBuferase | nvmOpPageerase | nvmOpProg4 | nvmOpProg5 | nvmOpProgC | nvmOpProgE
  | nvmOpUnimpl0 | nvmOpUnimpl1 | nvmOpUnimpl3 | nvmOpUnimpl6 | nvmOpUnimpl7 | nvmOpUnimpl8
  | nvmOpUnimpl9 | nvmOpUnimplB | nvmOpUnimplD | nvmOpUnimplF | nvmOpBadmagic =>
    rw [exec, exec]
    exact opTrigger_putUart _ _ s u
  | stgCodeSt4 off data => rw [exec_stgCodeSt4, exec_stgCodeSt4, stageStore_putUart, mapNext]
  | stgParamSt4 off data => rw [exec_stgParamSt4, exec_stgParamSt4, stageStore_putUart, mapNext]
  | uartStatusRd | uartStatusWr | uartRxdataRd | uartTxdataWr | uartRxdataWr | uartTxdataRd
  | uartUnmappedRd | uartUnmappedWr => exact absurd rfl hw
  | _ => rfl

/-- A transaction of the UART window neither reads nor writes the NVM controller. -/
theorem exec_putController {i : Instr} (hw : i.txn.win = .uart) (s : State) (c : ControllerSide) :
    exec i (s.putController c) = mapNext (·.putController c) (exec i s) := by
  cases i with
  | uartTxdataWr sz data =>
    cases hready : s.txReady with
    | true =>
      have hready' : (s.putController c).txReady = true := hready
      rw [exec_uartTxdataWr_of_ready sz data hready, exec_uartTxdataWr_of_ready sz data hready']
      rfl
    | false =>
      have hready' : (s.putController c).txReady = false := hready
      rw [exec_uartTxdataWr_of_not_ready sz data hready, exec_uartTxdataWr_of_not_ready sz data hready']
      rfl
  | anyW8 | uartStatusRd | uartStatusWr | uartRxdataRd | uartRxdataWr | uartTxdataRd | uartUnmappedRd
  | uartUnmappedWr => rfl
  | _ => cases hw

/-- Settles O50: every meaning commutes with another value of the side its window does not name. -/
theorem uartAndControllerIndependent : Obligations.UartAndControllerIndependent :=
  ⟨fun _ s b rxr txs ready out hw => exec_putUart hw s ⟨b, rxr, txs, ready, out⟩,
    fun _ s kr kp kg e pb sr sa mc mp hw => exec_putController hw s ⟨kr, kp, kg, e, pb, sr, sa, mc, mp⟩⟩

/-! The registers (R191, R192, R194) -/

/-- UART_STATUS holds 4 with the transmit flag set and 2 with the receive flag set, and no more. -/
theorem State.uartStatus_eq (s : State) : s.uartStatus = (if s.txs then 0x4 else 0) + (if s.rxr then 0x2 else 0) := by
  rw [State.uartStatus]
  cases s.txs <;> cases s.rxr <;> rfl

/-- UART_STATUS has no bit above its low byte. -/
theorem State.uartStatus_lt (s : State) : s.uartStatus.toNat < 2 ^ 8 := by
  rw [State.uartStatus, BitVec.toNat_setWidth_of_le (by decide)]
  exact (BitVec.isLt _).trans (by decide)

/-- Settles O42: UART_STATUS lies in its low byte, so every width reads the whole of it. -/
theorem uartStatusReadShowsFlags : Obligations.UartStatusReadShowsFlags := by
  intro sz data s
  refine ⟨rfl, ?_⟩
  rw [← State.uartStatus_eq, ← truncRead_of_lt sz s.uartStatus_lt]
  rfl

/-- The cancel keeps the transmit flag where bit 2 of the data is set, and clears it elsewhere. -/
theorem State.cancelTxs_eq (s : State) (data : Word) : s.cancelTxs data = { s with txs := s.txs && data[2] } := by
  have hcancel : cancelBit data = data[2] := rfl
  rw [State.cancelTxs, hcancel]
  cases data[2] <;> simp

/-- Settles O43: the write is the cancel, which touches no other field. -/
theorem uartStatusWriteCancelsTransmit : Obligations.UartStatusWriteCancelsTransmit := by
  intro sz data s
  refine ⟨rfl, ?_⟩
  rw [exec, execUartStatusWr, State.cancelTxs_eq]
  rfl

/-- A byte as a register's value is the same number at every width of the read (R53, R194). -/
theorem truncRead_byte (sz : Width) (b : Byte) : truncRead sz (b.setWidth 32) = BitVec.ofNat 32 b.toNat := by
  rw [BitVec.ofNat_toNat, truncRead_of_lt sz]
  rw [BitVec.toNat_setWidth_of_le (by decide)]
  exact b.isLt

/-- Settles O44: the received byte fits every width, and no branch asks whether it is new. -/
theorem rxDataReadTakesByte : Obligations.RxDataReadTakesByte := by
  intro sz data s
  refine ⟨rfl, ?_⟩
  rw [exec, execUartRxdataRd, State.readDone, truncRead_byte]
  rfl

/-! Offsets with no register in the direction of the access (R190, R195) -/

/-- An offset has no UART register behind it when it is none of the three (R59). -/
theorem uartMapped_eq_false_iff (off : Offset) : uartMapped off = false ↔ off ≠ 0x00 ∧ off ≠ 0x14 ∧ off ≠ 0x18 := by
  simp [uartMapped, uoffStatus, uoffRxdata, uoffTxdata, and_assoc]

/-- Settles O41: both accesses only log and answer, and stand in their rows where no register is mapped. -/
theorem unmappedUartAccessIgnored : Obligations.UnmappedUartAccessIgnored := by
  intro sz off data s
  refine ⟨rfl, rfl, rfl, rfl, fun i hi => ?_⟩
  have hrow : i.inRow = !uartMapped off := by
    rcases List.mem_pair.1 hi with rfl | rfl <;> rfl
  rw [hrow, Bool.not_eq_true', uartMapped_eq_false_iff]

/-- Settles O45: each is the rejected access of its own offset, which touches neither `RXR` nor the TX channel. -/
theorem uartWrongDirectionIgnored : Obligations.UartWrongDirectionIgnored :=
  fun _ _ _ => ⟨rfl, rfl, rfl, rfl⟩

end Sys2Proof.Machine

/-! PROOFS. The diagnostic log (60_exceptions.md): no rule reads it, and only a rejected transaction appends to it. -/

namespace Sys2Proof.Machine

/-! Noninterference of the log (R32, R220): a step commutes with events put before it -/

/-- The state with the events `l` put before its log. -/
def State.prependLog (s : State) (l : List Event) : State := { s with log := l ++ s.log }

/-- Appending an event and putting others before the log commute. -/
theorem State.prependLog_emit (s : State) (l : List Event) (e : Event) :
    (s.prependLog l).emit e = (s.emit e).prependLog l :=
  congrArg (fun log => { s with log := log }) (List.append_assoc l s.log [e])

/-- A rejection appends the same event behind any log. -/
theorem State.prependLog_rejected (s : State) (l : List Event) (reason : Reason) (win : Window) (off : Offset)
    (sz : Width) (data : Word) :
    (s.prependLog l).rejected reason win off sz data = (s.rejected reason win off sz data).prependLog l :=
  congrArg (State.respond · (.reject reason)) (s.prependLog_emit l _)

/-- A rejected read appends the same event behind any log. -/
theorem State.prependLog_rejectedRead (s : State) (l : List Event) (win : Window) (off : Offset) (sz : Width) :
    (s.prependLog l).rejectedRead win off sz = (s.rejectedRead win off sz).prependLog l :=
  congrArg (State.respond · (.rejectValue .unmappedRead sz 0)) (s.prependLog_emit l _)

/-- A MemWrite does not read the log. -/
theorem State.prependLog_memWrite (s : State) (l : List Event) (r : Region) (a : Nat) (bs : List Byte) :
    (s.prependLog l).memWrite r a bs = (s.memWrite r a bs).map (·.prependLog l) := by
  rw [State.memWrite, State.memWrite, apply_ite (Option.map _)]
  cases r <;> rfl

/-- A page write does not read the log. -/
theorem writePage_prependLog (r : Region) (a : Nat) (bs : List Byte) (s : State) (l : List Event) :
    writePage r a bs (s.prependLog l) = mapNext (·.prependLog l) (writePage r a bs s) := by
  rw [writePage, writePage, State.prependLog_memWrite]
  cases s.memWrite r a bs <;> rfl

/-- A write of NVM_OPCODE does not read the log: its magic, its preconditions and its operation do not. -/
theorem opTrigger_prependLog (sz : Width) (data : Word) (s : State) (l : List Event) :
    opTrigger sz data (s.prependLog l) = mapNext (·.prependLog l) (opTrigger sz data s) := by
  have htarget : opTarget (s.prependLog l) = opTarget s := opTarget_congr rfl rfl rfl rfl
  simp only [opTrigger, htarget, State.prependLog_rejected]
  by_cases hm : opcodeMagic data = opMagic
  · rw [if_neg (not_not.2 hm), if_neg (not_not.2 hm)]
    cases opTarget s with
    | error reason => rfl
    | ok target =>
      obtain ⟨r, a⟩ := target
      dsimp only
      split_ifs
      · rfl
      · exact writePage_prependLog r a erasedPage s l
      · exact writePage_prependLog r a s.pagebuf.toList s l
      · rfl
  · rw [if_pos hm, if_pos hm, mapNext]

/-- A staging store does not read the log. -/
theorem stageStore_prependLog (win : Window) (r : Region) (off : Offset) (data : Word) (s : State) (l : List Event) :
    stageStore win r off data (s.prependLog l) = (stageStore win r off data s).prependLog l := by
  have hunlocked : (s.prependLog l).unlocked = s.unlocked := rfl
  rw [stageStore, stageStore, hunlocked, State.prependLog_rejected, apply_ite (State.prependLog · l),
    apply_ite (State.prependLog · l)]
  rfl

/-- No instruction reads the log. -/
theorem exec_prependLog (i : Instr) (s : State) (l : List Event) :
    exec i (s.prependLog l) = mapNext (·.prependLog l) (exec i s) := by
  cases i with
  | nvmOpBuferase | nvmOpPageerase | nvmOpProg4 | nvmOpProg5 | nvmOpProgC | nvmOpProgE
  | nvmOpUnimpl0 | nvmOpUnimpl1 | nvmOpUnimpl3 | nvmOpUnimpl6 | nvmOpUnimpl7 | nvmOpUnimpl8
  | nvmOpUnimpl9 | nvmOpUnimplB | nvmOpUnimplD | nvmOpUnimplF | nvmOpBadmagic =>
    rw [exec, exec]
    exact opTrigger_prependLog _ _ s l
  | stgCodeSt4 | stgParamSt4 => exact congrArg Host.Outcome.next (stageStore_prependLog _ _ _ _ s l)
  | nvmUnmappedWr | uartRxdataWr | uartUnmappedWr =>
    exact congrArg Host.Outcome.next (s.prependLog_rejected l _ _ _ _ _)
  | nvmWoRd04 | nvmWoRd20 | nvmWoRd24 | nvmWoRd28 | nvmUnmappedRd | uartTxdataRd | uartUnmappedRd =>
    exact congrArg Host.Outcome.next (s.prependLog_rejectedRead l _ _ _)
  | uartTxdataWr =>
    rw [exec, exec, execUartTxdataWr, execUartTxdataWr, apply_ite (mapNext _)]
    rfl
  | _ => rfl

/-- The guest's move does not read the log: it waits, is refused, or runs an instruction. -/
theorem guestMove_prependLog (s : State) (l : List Event) :
    guestMove (s.prependLog l) = mapNext (·.prependLog l) (guestMove s) := by
  cases hf : s.fetch with
  | none =>
    rw [guestMove_of_fetch_none hf, guestMove_of_fetch_none (s := s.prependLog l) hf, mapNext]
  | some w =>
    cases hw : (decode w).wellFormed s.cfg with
    | false =>
      rw [guestMove_of_illFormed hf hw, guestMove_of_illFormed (s := s.prependLog l) hf hw]
      rfl
    | true =>
      rw [guestMove_of_wellFormed hf hw, guestMove_of_wellFormed (s := s.prependLog l) hf hw, exec_prependLog]

/-- RESET does not read the log. -/
theorem resetBlock_prependLog (s : State) (l : List Event) : resetBlock (s.prependLog l) = (resetBlock s).prependLog l := by
  simp only [resetBlock, State.redrawNvm, State.prependLog]

/-- No agent's move reads the log. -/
theorem runMove_prependLog (m : Move) (s : State) (l : List Event) :
    runMove m (s.prependLog l) = mapNext (·.prependLog l) (runMove m s) := by
  cases m with
  | guest => exact guestMove_prependLog s l
  | rxDeliver | txReady => rfl
  | reset => exact congrArg Host.Outcome.next (resetBlock_prependLog s l)

/-- Settles O51: neither the refusal mark nor the pick of the next move looks at the log, and no move reads it. -/
theorem logIsNeverRead : Obligations.LogIsNeverRead := by
  intro s l
  change step (s.prependLog l) = mapNext (·.prependLog l) (step s)
  cases hmark : s.refusalMark with
  | true =>
    obtain ⟨hstopped, -⟩ := refusalMarkStopsTheRun
    rw [hstopped s hmark, hstopped (s.prependLog l) hmark, mapNext]
  | false =>
    rw [step_of_moves (s := s) ⟨hmark, rfl⟩, ← runMove_prependLog]
    exact step_of_moves ⟨hmark, rfl⟩

/-! Rejected transactions (R13, R220) -/

/-- A rejection changes no architectural state. -/
@[simp] theorem State.rejected_arch (s : State) (reason : Reason) (win : Window) (off : Offset) (sz : Width) (data : Word) :
    (s.rejected reason win off sz data).arch = s.arch := rfl

/-- A rejected read changes no architectural state. -/
@[simp] theorem State.rejectedRead_arch (s : State) (win : Window) (off : Offset) (sz : Width) :
    (s.rejectedRead win off sz).arch = s.arch := rfl

/-- How an instruction ends: as the rejection of the write it is, as the rejection of the read it is, or with another answer and the log as it was. -/
theorem Effect.reject_cases {i : Instr} {s t : State} (h : Effect i s t) :
    (∃ reason win off sz data, i.txn = .narrow win .wr sz off data ∧ t = s.rejected reason win off sz data) ∨
    (∃ win off sz data, i.txn = .narrow win .rd sz off data ∧ t = s.rejectedRead win off sz) ∨
    ((∀ r, t.response ≠ .reject r) ∧ (∀ r sz v, t.response ≠ .rejectValue r sz v) ∧ t.log = s.log) := by
  cases h with
  | reject reason win off sz data hi => exact .inl ⟨reason, win, off, sz, data, hi, rfl⟩
  | rejectRead win off sz data hi => exact .inr (.inl ⟨win, off, sz, data, hi, rfl⟩)
  | stage | pageWrite => exact .inr (.inr (by simp))
  | _ => exact .inr (.inr ⟨nofun, nofun, rfl⟩)

/-- Settles O52: a rejection's event carries the fields of the instruction's own transaction, and the three endings exclude each other by the response. -/
theorem rejectLogsOneEvent : Obligations.RejectLogsOneEvent := by
  intro i s t hexec
  rcases (exec_effect hexec).reject_cases with
    ⟨reason, win, off, sz, data, hi, rfl⟩ | ⟨win, off, sz, data, hi, rfl⟩ | ⟨hwrite, hread, hlog⟩
  · rw [hi]
    refine ⟨fun r hr => ?_, nofun, fun hno => absurd rfl (hno reason).1⟩
    cases hr
    exact ⟨s.rejected_arch .., rfl, sz, rfl, rfl⟩
  · rw [hi]
    refine ⟨nofun, fun r sz' v hr => ?_, fun hno => absurd rfl ((hno .unmappedRead).2 sz 0)⟩
    cases hr
    exact ⟨s.rejectedRead_arch .., rfl, rfl, rfl, rfl, rfl⟩
  · exact ⟨fun r hr => absurd hr (hwrite r), fun r sz v hr => absurd hr (hread r sz v), fun _ => hlog⟩

end Sys2Proof.Machine

/-! PROOFS. Reset and persistence (70_reset_and_hazards.md): what a created block shows, what RESET clears and leaves, and what a restore puts back. -/

namespace Sys2Proof.Machine

/-! A created block (R33, R250) -/

/-- Both storage arrays of a created block list no address. -/
@[simp] theorem State.created_storage (c : Config) (r : Region) : (State.created c).storage r = [] := by
  cases r <;> rfl

/-- The read port of a created block shows the erased byte at every address of a region. -/
theorem State.created_storeRead {c : Config} {r : Region} {x : Nat} (h : x < c.size r) :
    (State.created c).storeRead r x = some erased := by
  rw [State.storeRead, State.created_storage, Memory.get_nil]
  exact if_pos h

/-- A locked block shows 0 in each bit of the unlock mask. -/
theorem State.unlockMask_of_keys_false {s : State} (hregion : s.keyRegion = false) (hparam : s.keyParam = false)
    (hglobal : s.keyGlobal = false) : s.unlockMask = 0 := by
  rw [State.unlockMask, hregion, hparam, hglobal]
  rfl

/-- Settles O55: storage lists no address, so it reads erased; the keys, `eint`, the mark, the log and the two sizes are as the definitions give them. -/
theorem createdBlockIsLockedAndErased : Obligations.CreatedBlockIsLockedAndErased :=
  ⟨fun _ _ _ => State.created_storeRead,
    fun _ => ⟨State.unlockMask_of_keys_false rfl rfl rfl, rfl, rfl, rfl⟩, rfl, rfl⟩

/-! RESET (R252) -/

/-- Settles O56: the step is `resetBlock` with the move taken off the schedule, and the registers it leaves open hold draw `s.draws`. -/
theorem resetClearsKeysAndEint : Obligations.ResetClearsKeysAndEint := by
  intro s rest hmoves
  have hstep : step s = .next (resetBlock (s.withSchedule rest)) := step_of_moves hmoves
  refine ⟨drawnPagebuf s.draws, regionOfId (Config.drawRegionId s.draws), Config.drawStgAddr s.draws,
    Config.drawRxByte s.draws, Config.drawRxr s.draws, Config.drawTxs s.draws, ?_⟩
  rw [hstep, resetBlock, State.redrawNvm, State.withSchedule]

/-! Save and restore (R258) -/

/-- A save right after a restore gives the restored snapshot. -/
@[simp] theorem State.save_restore (s : State) (p : Snapshot) : (s.restore p).save = p := by
  rw [State.save, State.restore]

/-- Settles O57: the persisted fields are read back by `State.save_restore`, and the page buffer and the staging pointer hold draw `s.draws`. -/
theorem restorePutsBackSnapshot : Obligations.RestorePutsBackSnapshot := by
  intro s p
  refine ⟨s.save_restore p, drawnPagebuf s.draws, regionOfId (Config.drawRegionId s.draws),
    Config.drawStgAddr s.draws, s.draws + 1, ?_⟩
  rw [State.restore, State.redrawNvm]

end Sys2Proof.Machine
